-- ==== Sys2Proof/Word.lean ====
section
/-!
DEFINITION. The plain types of the model: the bytes and wider fields that frames carry, the seconds count, the
numbers that name ports, compartments and table entries, saturating counts, and the three operations on tables of
fixed length. Byte order, sign extension and the CRC are in Decode.lean and Machine/Formats.lean.
-/
namespace Sys2Proof

/-- One byte of a frame. -/
abbrev Byte := BitVec 8
/-- A 16-bit field of a frame. -/
abbrev Half := BitVec 16
/-- A 32-bit field: a lot number, a consignee code, a mask (spec 00, Codes). -/
abbrev Word := BitVec 32
/-- A value of the seconds count; spans of it are taken modulo 2^32 (R181). -/
abbrev Time := BitVec 32

/-- Link ports L0, L1, L2. -/
abbrev Port := Fin 3
/-- Compartments, and the doors that belong to them. -/
abbrev Comp := Fin 4
/-- Probe lines P0 to P7. -/
abbrev Probe := Fin 8
/-- Product classes. -/
abbrev ClassNo := Fin 16
/-- Slots of the lot table (R88). -/
abbrev Slot := Fin 64
/-- Indexes of the handoff table (R122). -/
abbrev HIndex := Fin 128
/-- Stop numbers (R106). -/
abbrev StopNo := Fin 32

/-- A count of `w` bits saturates at its maximum (spec 00, Counts). -/
def satAdd (w x n : Nat) : Nat := min (x + n) (2 ^ w - 1)

/-- The span from `a` to `b` on the seconds count, modulo 2^32 (R181). -/
def span (a b : Time) : Nat := (b - a).toNat

/-- Entry `i` of a table becomes `x`. -/
def setAt {α : Type} {n : Nat} (v : Vector α n) (i : Fin n) (x : α) : Vector α n := v.set i.val x i.isLt

/-- Entry `i` of a table is changed by `f`. -/
def modAt {α : Type} {n : Nat} (v : Vector α n) (i : Fin n) (f : α → α) : Vector α n := setAt v i (f (v.get i))

/-- Every entry of a table is changed by `f` (in a form that the kernel evaluates). -/
def mapV {α β : Type} {n : Nat} (f : α → β) (v : Vector α n) : Vector β n := ⟨⟨v.toList.map f⟩, by simp⟩

end Sys2Proof
end

