-- ==== Sys2Proof/Config.lean ====
section
/-!
DEFINITION. What the spec leaves open, as constants without a body, so that nothing can be proved of their values
(assumption log 3 and 4).
-/
namespace Sys2Proof.Config

/-- What a release of RSTN finds in the settings store when it interrupts a store write (log 3). -/
inductive InterruptedWrite where
  | before     -- the contents the store had before the write, passing their check
  | after      -- the active copy that was being written, passing its check
  | failing    -- contents that fail their check
  deriving DecidableEq, Repr, Inhabited

/-- FREE VALUE. R179 says what the loss of main power does to a store write in flight. The spec is silent on a
release of RSTN. The argument is the model's counter of draws, so that each reset has an outcome of its own. -/
opaque interruptedWrite : Nat → InterruptedWrite

/-- FREE VALUE. R162 gives a response the request's KIND plus 0x80. At step 1 the KIND may be 0x80 or above, and
the sum then does not fit the byte of R182; the byte sent is not stated. -/
opaque wideKind : Byte → Byte

end Sys2Proof.Config
end

