-- ==== Sys2Proof/Syntax.lean ====
section
/-!
DEFINITION. The commands of the K46, one constructor per row of spec/opcode_table.json, in the table's order. A
request carries the port it arrives on, the TAG byte that its response copies (R162), and the fields of its BODY in
the order and widths of R183. An event carries what the outside decides of it.
-/
namespace Sys2Proof

/-- A valid answer on a probe line (R4): a signed temperature in sixteenths, or that the probe cannot measure. -/
inductive ProbeAnswer where
  | value (raw : Int)
  | fault
  deriving DecidableEq, Repr

/-- The commands the K46 takes. -/
inductive Instr where
  /-- PORT_STATUS (R167) -/
  | portStatus (p : Port) (tag : Byte)
  /-- COUNTERS_CLEAR (R166) -/
  | countersClear (p : Port) (tag : Byte)
  /-- NOTICE_ENABLE (R176) -/
  | noticeEnable (p : Port) (tag : Byte) (value : Byte)
  /-- SCAN_BID (R17) -/
  | scanBid (p : Port) (tag : Byte) (seconds : Half)
  /-- CLOCK_GET (R181) -/
  | clockGet (p : Port) (tag : Byte)
  /-- CLOCK_SET (R181) -/
  | clockSet (p : Port) (tag : Byte) (seconds : Word)
  /-- SETTINGS_GET (R179) -/
  | settingsGet (p : Port) (tag : Byte) (group index : Byte)
  /-- SETTINGS_PUT (R179): the entry's bytes as section 12.4 lays them out -/
  | settingsPut (p : Port) (tag : Byte) (group index : Byte) (entry : List Byte)
  /-- STORE_WRITE_COMPLETION (R179) -/
  | storeWriteCompletion
  /-- RESTART (R180) -/
  | restart (p : Port) (tag : Byte)
  /-- RESTART_START (R180) -/
  | restartStart
  /-- POWER_UP (R180) -/
  | powerUp
  /-- RSTN_RESET (R180) -/
  | rstnReset
  /-- MAIN_POWER_LOSS (R180) -/
  | mainPowerLoss
  /-- START_READY (R180) -/
  | startReady
  /-- COMPARTMENT_STATUS (R16) -/
  | compartmentStatus (p : Port) (tag : Byte) (compartment : Byte)
  /-- PROBE_STATUS (R10) -/
  | probeStatus (p : Port) (tag : Byte) (probe : Byte)
  /-- PROBE_CLEAR (R9) -/
  | probeClear (p : Port) (tag : Byte) (probe : Byte)
  /-- WATCH_REARM (R31) -/
  | watchRearm (p : Port) (tag : Byte) (compartment : Byte)
  /-- DOOR_STATUS (R49) -/
  | doorStatus (p : Port) (tag : Byte) (door : Byte)
  /-- DOOR_REARM (R45) -/
  | doorRearm (p : Port) (tag : Byte) (door : Byte)
  /-- DEFROST_STATUS (R63) -/
  | defrostStatus (p : Port) (tag : Byte) (compartment : Byte)
  /-- DEFROST_ASK (R55) -/
  | defrostAsk (p : Port) (tag : Byte) (compartment : Byte)
  /-- DEFROST_END (R58) -/
  | defrostEnd (p : Port) (tag : Byte) (compartment : Byte)
  /-- REFILL_EXPIRY (R54) -/
  | refillExpiry (c : Comp)
  /-- LOT_LOAD (R91) -/
  | lotLoad (p : Port) (tag : Byte) (lot : Word) (cls compartment : Byte) (quantity : Half)
  /-- LOT_MOVE (R93) -/
  | lotMove (p : Port) (tag : Byte) (lot : Word) (compartment : Byte)
  /-- LOT_WRITE_OFF (R94) -/
  | lotWriteOff (p : Port) (tag : Byte) (lot : Word) (quantity : Half)
  /-- LOT_RETIRE (R97) -/
  | lotRetire (p : Port) (tag : Byte) (lot : Word) (force : Byte)
  /-- LOT_STATUS (R100) -/
  | lotStatus (p : Port) (tag : Byte) (lot : Word) (part : Byte)
  /-- LOT_LIST (R101) -/
  | lotList (p : Port) (tag : Byte) (first : Byte)
  /-- REPORT_LOT (R168) -/
  | reportLot (p : Port) (tag : Byte) (lot : Word) (page : Byte)
  /-- COMPOSITION_COMPLETION (R169) -/
  | compositionCompletion
  /-- DISCARD_TIMER_EXPIRY (R171) -/
  | discardTimerExpiry
  /-- ROUTE_BEGIN (R105) -/
  | routeBegin (p : Port) (tag : Byte) (number : Half)
  /-- STOP_LOAD (R107) -/
  | stopLoad (p : Port) (tag : Byte) (stop : Byte) (consignee mask : Word) (budget limit : Half)
      (planned : List (Word × Half))
  /-- DISPATCH (R109) -/
  | dispatch (p : Port) (tag : Byte)
  /-- RETURN (R117) -/
  | vanReturn (p : Port) (tag : Byte)
  /-- STOP_OPEN (R112) -/
  | stopOpen (p : Port) (tag : Byte) (stop : Byte)
  /-- STOP_CLOSE (R114) -/
  | stopClose (p : Port) (tag : Byte)
  /-- STOP_STATUS (R119) -/
  | stopStatus (p : Port) (tag : Byte) (stop : Byte)
  /-- STOP_TIMER_EXPIRY (R113) -/
  | stopTimerExpiry
  /-- HANDOFF_OFFER (R125) -/
  | handoffOffer (p : Port) (tag : Byte) (lot : Word) (quantity : Half)
  /-- HANDOFF_ACCEPT (R128) -/
  | handoffAccept (p : Port) (tag : Byte) (index : Byte) (code : Word) (accepted : Half) (condition : Byte)
  /-- HANDOFF_COPIED (R134) -/
  | handoffCopied (p : Port) (tag : Byte) (index : Byte) (value : Half)
  /-- HANDOFF_WITHDRAW (R136) -/
  | handoffWithdraw (p : Port) (tag : Byte) (index : Byte)
  /-- HANDOFF_STATUS (R138) -/
  | handoffStatus (p : Port) (tag : Byte) (index : Byte)
  /-- ACK_TIMER_EXPIRY (R127) -/
  | ackTimerExpiry (h : HIndex)
  /-- CLAIM_LODGE (R144) -/
  | claimLodge (p : Port) (tag : Byte) (index : Byte) (code : Word) (quantity : Half)
  /-- CLAIM_WITHDRAW (R151) -/
  | claimWithdraw (p : Port) (tag : Byte) (number : Half)
  /-- CLAIM_FETCH (R153) -/
  | claimFetch (p : Port) (tag : Byte) (number : Half)
  /-- CLAIM_CLEAR (R154) -/
  | claimClear (p : Port) (tag : Byte) (number : Half)
  /-- CLAIM_LIST (R155) -/
  | claimList (p : Port) (tag : Byte)
  /-- ASSESSMENT_COMPLETION (R150) -/
  | assessmentCompletion
  /-- SCAN_START (R3) -/
  | scanStart
  /-- PROBE_READ_COMPLETION (R4) -/
  | probeReadCompletion (probe : Probe) (answer : ProbeAnswer)
  /-- PROBE_INVALID_ANSWER (R4) -/
  | probeInvalidAnswer (probe : Probe)
  /-- READ_TIMEOUT (R4) -/
  | readTimeout (probe : Probe)
  /-- SCAN_COMPLETION (R14): bit `c` of `watchFirst` is set when the Excursion Watch takes the reading of
  compartment `c` before the Exposure Accountant does; R14 and R33 leave either order -/
  | scanCompletion (watchFirst : BitVec 4)
  /-- DOOR_INPUT_LEVEL (R38): the electrical level now at the door's input -/
  | doorInputLevel (door : Comp) (high : Bool)
  /-- ACCEPTED_CHANGE (R39) -/
  | acceptedChange (door : Comp)
  /-- HELD_LIMIT_REACHED (R40) -/
  | heldLimitReached (door : Comp)
  /-- STOP_DOOR_SECOND (R47) -/
  | stopDoorSecond (door : Comp)
  /-- BYTE_RECEIVED (R159): a byte, and whether it arrived with a UART framing error -/
  | byteReceived (p : Port) (value : Byte) (framingError : Bool)
  /-- INTER_BYTE_TIMEOUT (R159) -/
  | interByteTimeout (p : Port)
  /-- FRAME_DISCARDED (R161) -/
  | frameDiscarded (p : Port)
  /-- UNDEFINED_REQUEST (R162, step 2) -/
  | undefinedRequest (p : Port) (kind tag : Byte)
  /-- RESPONSE_SENT (R161) -/
  | responseSent (p : Port)
  /-- PORT_SETTINGS_EFFECT (R158) -/
  | portSettingsEffect (p : Port)
  /-- NOTICE_SEND (R176) -/
  | noticeSend (p : Port)
  /-- PORT_BREAK (R160) -/
  | portBreak (p : Port)
  /-- BREAK_END (R160) -/
  | breakEnd (p : Port)
  /-- SECONDS_COUNT_ADVANCE (R181) -/
  | secondsCountAdvance
  /-- BACKUP_SUPPLY_LOSS (R180) -/
  | backupSupplyLoss
  /-- NOTICE_FRAME_END (R163) -/
  | noticeFrameEnd (p : Port)
  deriving DecidableEq, Repr

end Sys2Proof
end

