-- ==== Sys2Proof/Decode.lean ====
section
/-!
DEFINITION. Byte order and sign (R182), the request codes of R183 with the BODY each requires, and the reading of a
received frame as a command; after it the writing of a request as KIND and BODY, from the same table. No row of
spec/opcode_table.json gives bits, so no word spells a command.
-/
namespace Sys2Proof

/-- No row of the opcode table gives bits: no word spells a command. -/
def decodeTableWord (_nbits _w : Nat) : Option Instr := none

/-- A 16-bit field, most significant byte first (R182). -/
def halfBytes (x : Half) : List Byte := [x.extractLsb' 8 8, x.extractLsb' 0 8]

/-- A 32-bit field, most significant byte first (R182). -/
def wordBytes (x : Word) : List Byte :=
  [x.extractLsb' 24 8, x.extractLsb' 16 8, x.extractLsb' 8 8, x.extractLsb' 0 8]

/-- The 16-bit field whose bytes, most significant first, are `a b`. -/
def readHalf (a b : Byte) : Half := a ++ b

/-- The 32-bit field whose bytes, most significant first, are `a b c d`. -/
def readWord (a b c d : Byte) : Word := a ++ b ++ c ++ d

/-- What the KIND and BODY of a taken frame are (R162, steps 2 and 4). -/
inductive Decoded where
  /-- KIND is no request code that the K46 defines -/
  | undefined
  /-- KIND is defined, and BODY has not the length its layout requires -/
  | badLength
  | request (c : Instr)
  deriving DecidableEq, Repr

/-- An empty BODY. -/
def bodyEmpty (c : Instr) : List Byte → Decoded
  | [] => .request c
  | _ => .badLength

/-- A BODY of one byte. -/
def bodyByte (f : Byte → Instr) : List Byte → Decoded
  | [a] => .request (f a)
  | _ => .badLength

/-- A BODY of one 16-bit field. -/
def bodyHalf (f : Half → Instr) : List Byte → Decoded
  | [a, b] => .request (f (readHalf a b))
  | _ => .badLength

/-- A BODY of one 32-bit field. -/
def bodyWord (f : Word → Instr) : List Byte → Decoded
  | [a, b, c, d] => .request (f (readWord a b c d))
  | _ => .badLength

/-- A BODY of a 32-bit field and a byte. -/
def bodyWordByte (f : Word → Byte → Instr) : List Byte → Decoded
  | [a, b, c, d, e] => .request (f (readWord a b c d) e)
  | _ => .badLength

/-- A BODY of a 32-bit field and a 16-bit field. -/
def bodyWordHalf (f : Word → Half → Instr) : List Byte → Decoded
  | [a, b, c, d, e, g] => .request (f (readWord a b c d) (readHalf e g))
  | _ => .badLength

/-- The planned entries of a STOP_LOAD, six bytes each. -/
def readPlanned : List Byte → Option (List (Word × Half))
  | [] => some []
  | a :: b :: c :: d :: e :: g :: rest => (readPlanned rest).map ((readWord a b c d, readHalf e g) :: ·)
  | _ => none

/-- The BODY of STOP_LOAD: 14 + 6n bytes, n being its entry count (R183). -/
def bodyStopLoad (p : Port) (tag : Byte) : List Byte → Decoded
  | stop :: c0 :: c1 :: c2 :: c3 :: m0 :: m1 :: m2 :: m3 :: b0 :: b1 :: l0 :: l1 :: n :: rest =>
    match readPlanned rest with
    | some planned =>
      if planned.length = n.toNat then
        .request (.stopLoad p tag stop (readWord c0 c1 c2 c3) (readWord m0 m1 m2 m3) (readHalf b0 b1)
          (readHalf l0 l1) planned)
      else .badLength
    | none => .badLength
  | _ => .badLength

/-- The command that a frame taken on port `p` with this KIND, TAG and BODY stands for (R183). The length of a
SETTINGS_PUT entry is judged with the request, since it depends on the group. -/
def decodeRequest (p : Port) (kind tag : Byte) (body : List Byte) : Decoded :=
  match kind.toNat with
  | 0x01 => bodyEmpty (.portStatus p tag) body
  | 0x02 => bodyEmpty (.countersClear p tag) body
  | 0x03 => bodyByte (.noticeEnable p tag) body
  | 0x04 => bodyHalf (.scanBid p tag) body
  | 0x05 => bodyEmpty (.clockGet p tag) body
  | 0x06 => bodyWord (.clockSet p tag) body
  | 0x07 => match body with
    | [g, i] => .request (.settingsGet p tag g i)
    | _ => .badLength
  | 0x08 => match body with
    | g :: i :: entry => .request (.settingsPut p tag g i entry)
    | _ => .badLength
  | 0x09 => bodyEmpty (.restart p tag) body
  | 0x10 => bodyByte (.compartmentStatus p tag) body
  | 0x11 => bodyByte (.probeStatus p tag) body
  | 0x12 => bodyByte (.probeClear p tag) body
  | 0x13 => bodyByte (.watchRearm p tag) body
  | 0x14 => bodyByte (.doorStatus p tag) body
  | 0x15 => bodyByte (.doorRearm p tag) body
  | 0x16 => bodyByte (.defrostStatus p tag) body
  | 0x17 => bodyByte (.defrostAsk p tag) body
  | 0x18 => bodyByte (.defrostEnd p tag) body
  | 0x20 => match body with
    | [a, b, c, d, cls, comp, e, g] => .request (.lotLoad p tag (readWord a b c d) cls comp (readHalf e g))
    | _ => .badLength
  | 0x21 => bodyWordByte (.lotMove p tag) body
  | 0x22 => bodyWordHalf (.lotWriteOff p tag) body
  | 0x23 => bodyWordByte (.lotRetire p tag) body
  | 0x24 => bodyWordByte (.lotStatus p tag) body
  | 0x25 => bodyByte (.lotList p tag) body
  | 0x26 => bodyWordByte (.reportLot p tag) body
  | 0x28 => bodyHalf (.routeBegin p tag) body
  | 0x29 => bodyStopLoad p tag body
  | 0x2A => bodyEmpty (.dispatch p tag) body
  | 0x2B => bodyEmpty (.vanReturn p tag) body
  | 0x2C => bodyByte (.stopOpen p tag) body
  | 0x2D => bodyEmpty (.stopClose p tag) body
  | 0x2E => bodyByte (.stopStatus p tag) body
  | 0x30 => bodyWordHalf (.handoffOffer p tag) body
  | 0x31 => match body with
    | [i, a, b, c, d, e, g, cond] =>
      .request (.handoffAccept p tag i (readWord a b c d) (readHalf e g) cond)
    | _ => .badLength
  | 0x32 => match body with
    | [i, a, b] => .request (.handoffCopied p tag i (readHalf a b))
    | _ => .badLength
  | 0x33 => bodyByte (.handoffWithdraw p tag) body
  | 0x34 => bodyByte (.handoffStatus p tag) body
  | 0x38 => match body with
    | [i, a, b, c, d, e, g] => .request (.claimLodge p tag i (readWord a b c d) (readHalf e g))
    | _ => .badLength
  | 0x39 => bodyHalf (.claimWithdraw p tag) body
  | 0x3A => bodyHalf (.claimFetch p tag) body
  | 0x3B => bodyHalf (.claimClear p tag) body
  | 0x3C => bodyEmpty (.claimList p tag) body
  | _ => .undefined

/-- The request codes that the K46 defines (R183). -/
def definedKinds : List Nat :=
  [0x01, 0x02, 0x03, 0x04, 0x05, 0x06, 0x07, 0x08, 0x09, 0x10, 0x11, 0x12, 0x13, 0x14, 0x15, 0x16, 0x17, 0x18,
   0x20, 0x21, 0x22, 0x23, 0x24, 0x25, 0x26, 0x28, 0x29, 0x2A, 0x2B, 0x2C, 0x2D, 0x2E, 0x30, 0x31, 0x32, 0x33,
   0x34, 0x38, 0x39, 0x3A, 0x3B, 0x3C]

/-- Whether KIND is a request code that the K46 defines (R162, step 2). -/
def definedKind (kind : Byte) : Bool := definedKinds.contains kind.toNat

/-- A planned entry as STOP_LOAD carries it. -/
def plannedBytes (e : Word × Half) : List Byte := wordBytes e.1 ++ halfBytes e.2

/-- Port, KIND, TAG and BODY of the frame that carries a request (R183); none for a command that is no request. -/
def encodeRequest : Instr → Option (Port × Byte × Byte × List Byte)
  | .portStatus p t => some (p, 0x01, t, [])
  | .countersClear p t => some (p, 0x02, t, [])
  | .noticeEnable p t v => some (p, 0x03, t, [v])
  | .scanBid p t v => some (p, 0x04, t, halfBytes v)
  | .clockGet p t => some (p, 0x05, t, [])
  | .clockSet p t v => some (p, 0x06, t, wordBytes v)
  | .settingsGet p t g i => some (p, 0x07, t, [g, i])
  | .settingsPut p t g i entry => some (p, 0x08, t, g :: i :: entry)
  | .restart p t => some (p, 0x09, t, [])
  | .compartmentStatus p t c => some (p, 0x10, t, [c])
  | .probeStatus p t i => some (p, 0x11, t, [i])
  | .probeClear p t i => some (p, 0x12, t, [i])
  | .watchRearm p t c => some (p, 0x13, t, [c])
  | .doorStatus p t d => some (p, 0x14, t, [d])
  | .doorRearm p t d => some (p, 0x15, t, [d])
  | .defrostStatus p t c => some (p, 0x16, t, [c])
  | .defrostAsk p t c => some (p, 0x17, t, [c])
  | .defrostEnd p t c => some (p, 0x18, t, [c])
  | .lotLoad p t lot cls comp q => some (p, 0x20, t, wordBytes lot ++ [cls, comp] ++ halfBytes q)
  | .lotMove p t lot comp => some (p, 0x21, t, wordBytes lot ++ [comp])
  | .lotWriteOff p t lot q => some (p, 0x22, t, wordBytes lot ++ halfBytes q)
  | .lotRetire p t lot force => some (p, 0x23, t, wordBytes lot ++ [force])
  | .lotStatus p t lot part => some (p, 0x24, t, wordBytes lot ++ [part])
  | .lotList p t first => some (p, 0x25, t, [first])
  | .reportLot p t lot page => some (p, 0x26, t, wordBytes lot ++ [page])
  | .routeBegin p t n => some (p, 0x28, t, halfBytes n)
  | .stopLoad p t stop x m budget limit planned =>
    some (p, 0x29, t, stop :: wordBytes x ++ wordBytes m ++ halfBytes budget ++ halfBytes limit
      ++ [BitVec.ofNat 8 planned.length] ++ planned.flatMap plannedBytes)
  | .dispatch p t => some (p, 0x2A, t, [])
  | .vanReturn p t => some (p, 0x2B, t, [])
  | .stopOpen p t n => some (p, 0x2C, t, [n])
  | .stopClose p t => some (p, 0x2D, t, [])
  | .stopStatus p t n => some (p, 0x2E, t, [n])
  | .handoffOffer p t lot q => some (p, 0x30, t, wordBytes lot ++ halfBytes q)
  | .handoffAccept p t i code a cond => some (p, 0x31, t, i :: wordBytes code ++ halfBytes a ++ [cond])
  | .handoffCopied p t i v => some (p, 0x32, t, i :: halfBytes v)
  | .handoffWithdraw p t i => some (p, 0x33, t, [i])
  | .handoffStatus p t i => some (p, 0x34, t, [i])
  | .claimLodge p t i code q => some (p, 0x38, t, i :: wordBytes code ++ halfBytes q)
  | .claimWithdraw p t n => some (p, 0x39, t, halfBytes n)
  | .claimFetch p t n => some (p, 0x3A, t, halfBytes n)
  | .claimClear p t n => some (p, 0x3B, t, halfBytes n)
  | .claimList p t => some (p, 0x3C, t, [])
  | .storeWriteCompletion | .restartStart | .powerUp | .rstnReset | .mainPowerLoss | .startReady => none
  | .refillExpiry _ | .compositionCompletion | .discardTimerExpiry | .stopTimerExpiry | .ackTimerExpiry _ => none
  | .assessmentCompletion | .scanStart | .probeReadCompletion _ _ | .probeInvalidAnswer _ | .readTimeout _ => none
  | .scanCompletion _ | .doorInputLevel _ _ | .acceptedChange _ | .heldLimitReached _ | .stopDoorSecond _ => none
  | .byteReceived _ _ _ | .interByteTimeout _ | .frameDiscarded _ | .undefinedRequest _ _ _ => none
  | .responseSent _ | .portSettingsEffect _ | .noticeSend _ | .portBreak _ | .breakEnd _ => none
  | .secondsCountAdvance | .backupSupplyLoss | .noticeFrameEnd _ => none

end Sys2Proof
end

