-- ==== Sys2Proof/Machine/Settings.lean ====
section
/-!
DEFINITION. The settings groups (section 11.3) with their factory values, the layout of an entry (section 12.4) and
the ranges and relations an entry must keep (R1, R22, R37, R53, R127, R158, R171, R178).
-/
namespace Sys2Proof.Machine

/-- Role of a port (section 0.4). -/
inductive Role where
  | cab | dock | cooling | noRole
  deriving DecidableEq, Repr

inductive Baud where
  | b9600 | b19200 | b57600 | b115200
  deriving DecidableEq, Repr

inductive ProbeRole where
  | air | product
  deriving DecidableEq, Repr

inductive Polarity where
  | openHigh | openLow
  deriving DecidableEq, Repr

inductive NoticeMode where
  | every | firstOnly
  deriving DecidableEq, Repr

/-- GENERAL group (R1, R127, R171). -/
structure General where
  scanFloor : Nat
  defaultPeriod : Nat
  handoffWindow : Nat
  discardTime : Nat
  deriving DecidableEq, Repr

/-- PORT group (R158). -/
structure PortCfg where
  role : Role
  baud : Baud
  deriving DecidableEq, Repr

/-- PROBE group: one entry of the probe map (R1). -/
structure ProbeCfg where
  enabled : Bool
  comp : Comp
  role : ProbeRole
  trim : Int
  jump : Nat
  deriving DecidableEq, Repr

/-- DOOR group (R37). -/
structure DoorCfg where
  polarity : Polarity
  debounce : Nat
  heldLimit : Nat
  deriving DecidableEq, Repr

/-- COMPARTMENT group (R1, R22, R53). -/
structure CompCfg where
  enabled : Bool
  holdLimit : Nat
  low : Int
  high : Int
  trigger : Nat
  clear : Nat
  mode : NoticeMode
  poolMax : Nat
  refillAmount : Nat
  refillInterval : Nat
  minGrant : Nat
  deriving DecidableEq, Repr

/-- CLASS group (R178): limit L, band edges B1 and B2, door floor F, shock level S, dose limit DL, shock limit SL,
unverified limit UL, claim window CW. -/
structure ClassCfg where
  limit : Int
  b1 : Int
  b2 : Int
  floor : Int
  shock : Int
  doseLimit : Nat
  shockLimit : Nat
  unverifiedLimit : Nat
  window : Nat
  deriving DecidableEq, Repr

/-- The six groups of the settings (section 11.3). -/
structure Settings where
  general : General
  ports : Vector PortCfg 3
  probes : Vector ProbeCfg 8
  doors : Vector DoorCfg 4
  comps : Vector CompCfg 4
  classes : Vector ClassCfg 16
  deriving DecidableEq, Repr

/-- Factory values of every group (R1, R22, R37, R53, R79, R127, R158, R171). -/
def Settings.factory : Settings where
  general := { scanFloor := 10, defaultPeriod := 30, handoffWindow := 300, discardTime := 30 }
  ports := #v[⟨.cab, .b19200⟩, ⟨.cooling, .b19200⟩, ⟨.dock, .b19200⟩]
  probes := Vector.ofFn fun i : Probe =>
    { enabled := i.val < 4, comp := Fin.ofNat 4 i.val, role := .air, trim := 0, jump := 128 }
  doors := Vector.replicate 4 { polarity := .openHigh, debounce := 200, heldLimit := 120 }
  comps := Vector.ofFn fun c : Comp =>
    { enabled := c.val < 2, holdLimit := 3, low := -640, high := -240, trigger := 4, clear := 2, mode := .every,
      poolMax := 1200, refillAmount := 300, refillInterval := 3600, minGrant := 120 }
  classes := Vector.replicate 16
    { limit := -288, b1 := 48, b2 := 128, floor := 48, shock := -192, doseLimit := 240, shockLimit := 3,
      unverifiedLimit := 600, window := 48 }

/-- One entry of one group. -/
inductive EntryRef where
  | general
  | port (p : Port)
  | probe (i : Probe)
  | door (d : Comp)
  | compartment (c : Comp)
  | cls (k : ClassNo)
  deriving DecidableEq, Repr

/-- An entry's index within its group, when it lies within the group's entry count. -/
def indexIn (n : Nat) (index : Byte) : Option (Fin n) :=
  if h : index.toNat < n then some ⟨index.toNat, h⟩ else none

/-- The entry that a group byte and an index name; none where either is out of range (R179, check 1). -/
def entryRef (group index : Byte) : Option EntryRef :=
  match group.toNat with
  | 0 => if index = 0 then some .general else none
  | 1 => (indexIn 3 index).map .port
  | 2 => (indexIn 8 index).map .probe
  | 3 => (indexIn 4 index).map .door
  | 4 => (indexIn 4 index).map .compartment
  | 5 => (indexIn 16 index).map .cls
  | _ => none

/-- The entry size of a group (section 12.4); a group byte above 5 has none (R183). -/
def entrySize (group : Byte) : Option Nat :=
  match group.toNat with
  | 0 => some 6
  | 1 => some 2
  | 2 => some 6
  | 3 => some 5
  | 4 => some 19
  | 5 => some 19
  | _ => none

/-- A count or number in one byte (R182). -/
def u8 (n : Nat) : List Byte := [BitVec.ofNat 8 n]
/-- A quantity, 16-bit count or seconds in two bytes (R182). -/
def u16 (n : Nat) : List Byte := halfBytes (BitVec.ofNat 16 n)
/-- A 32-bit count in four bytes (R182). -/
def u32 (n : Nat) : List Byte := wordBytes (BitVec.ofNat 32 n)
/-- A temperature or temperature difference, two's complement in two bytes (R182). -/
def t16 (t : Int) : List Byte := halfBytes (BitVec.ofInt 16 t)
/-- yes/no, set/clear, on/off in one byte (R182). -/
def flag (b : Bool) : List Byte := [if b then 1 else 0]

/-- Role codes (R182). -/
def Role.code : Role → Nat
  | .cab => 0 | .dock => 1 | .cooling => 2 | .noRole => 3
/-- Baud codes (R182). -/
def Baud.code : Baud → Nat
  | .b9600 => 0 | .b19200 => 1 | .b57600 => 2 | .b115200 => 3
/-- Probe role codes (R182). -/
def ProbeRole.code : ProbeRole → Nat
  | .air => 0 | .product => 1
/-- Door polarity codes (R182). -/
def Polarity.code : Polarity → Nat
  | .openHigh => 0 | .openLow => 1
/-- Notice mode codes (R182). -/
def NoticeMode.code : NoticeMode → Nat
  | .every => 0 | .firstOnly => 1

def General.bytes (g : General) : List Byte :=
  u8 g.scanFloor ++ u16 g.defaultPeriod ++ u16 g.handoffWindow ++ u8 g.discardTime

def PortCfg.bytes (c : PortCfg) : List Byte := u8 c.role.code ++ u8 c.baud.code

def ProbeCfg.bytes (c : ProbeCfg) : List Byte :=
  flag c.enabled ++ u8 c.comp.val ++ u8 c.role.code ++ [BitVec.ofInt 8 c.trim] ++ t16 c.jump

def DoorCfg.bytes (c : DoorCfg) : List Byte := u8 c.polarity.code ++ u16 c.debounce ++ u16 c.heldLimit

def CompCfg.bytes (c : CompCfg) : List Byte :=
  flag c.enabled ++ u8 c.holdLimit ++ t16 c.low ++ t16 c.high ++ u8 c.trigger ++ u8 c.clear ++ u8 c.mode.code
    ++ u16 c.poolMax ++ u16 c.refillAmount ++ u32 c.refillInterval ++ u16 c.minGrant

def ClassCfg.bytes (c : ClassCfg) : List Byte :=
  t16 c.limit ++ t16 c.b1 ++ t16 c.b2 ++ t16 c.floor ++ t16 c.shock ++ u16 c.doseLimit ++ u8 c.shockLimit
    ++ u32 c.unverifiedLimit ++ u16 c.window

/-- An entry as SETTINGS_GET and SETTINGS_PUT carry it (section 12.4). -/
def Settings.entryBytes (st : Settings) : EntryRef → List Byte
  | .general => st.general.bytes
  | .port p => (st.ports.get p).bytes
  | .probe i => (st.probes.get i).bytes
  | .door d => (st.doors.get d).bytes
  | .compartment c => (st.comps.get c).bytes
  | .cls k => (st.classes.get k).bytes

/-- yes/no in a request: any value but 0 and 1 is out of range (R182). -/
def readFlag (b : Byte) : Option Bool := if b = 0 then some false else if b = 1 then some true else none

def readRole (b : Byte) : Option Role :=
  match b.toNat with
  | 0 => some .cab | 1 => some .dock | 2 => some .cooling | 3 => some .noRole | _ => none

def readBaud (b : Byte) : Option Baud :=
  match b.toNat with
  | 0 => some .b9600 | 1 => some .b19200 | 2 => some .b57600 | 3 => some .b115200 | _ => none

/-- A signed field of two bytes. -/
def readInt (a b : Byte) : Int := (readHalf a b).toInt

/-- A GENERAL entry with every field in its range, and the default period at or above the floor (R1). -/
def General.read : List Byte → Option General
  | [f, p1, p0, w1, w0, dt] =>
    let g : General := { scanFloor := f.toNat, defaultPeriod := (readHalf p1 p0).toNat,
                         handoffWindow := (readHalf w1 w0).toNat, discardTime := dt.toNat }
    if 2 ≤ g.scanFloor ∧ g.scanFloor ≤ 60 ∧ 2 ≤ g.defaultPeriod ∧ g.defaultPeriod ≤ 256
        ∧ g.scanFloor ≤ g.defaultPeriod ∧ 30 ≤ g.handoffWindow ∧ g.handoffWindow ≤ 3600
        ∧ 5 ≤ g.discardTime then some g else none
  | _ => none

/-- A PORT entry (R158). -/
def PortCfg.read : List Byte → Option PortCfg
  | [r, b] => do return { role := ← readRole r, baud := ← readBaud b }
  | _ => none

/-- A PROBE entry with every field in its range (R1). -/
def ProbeCfg.read : List Byte → Option ProbeCfg
  | [e, c, r, t, j1, j0] => do
    let enabled ← readFlag e
    let comp ← indexIn 4 c
    let product ← readFlag r
    let trim := t.toInt
    let jump := readInt j1 j0
    if -32 ≤ trim ∧ trim ≤ 31 ∧ 0 ≤ jump ∧ jump ≤ 640 then
      return { enabled := enabled, comp := comp, role := if product then .product else .air, trim := trim,
               jump := jump.toNat }
    else none
  | _ => none

/-- A DOOR entry with every field in its range (R37). -/
def DoorCfg.read : List Byte → Option DoorCfg
  | [p, d1, d0, h1, h0] => do
    let low ← readFlag p
    let debounce := (readHalf d1 d0).toNat
    let held := (readHalf h1 h0).toNat
    if 20 ≤ debounce ∧ debounce ≤ 1000 ∧ 10 ≤ held ∧ held ≤ 3600 then
      return { polarity := if low then .openLow else .openHigh, debounce := debounce, heldLimit := held }
    else none
  | _ => none

/-- A COMPARTMENT entry with every field in its range and the high limit above the low limit (R1, R22, R53). -/
def CompCfg.read : List Byte → Option CompCfg
  | [e, hl, l1, l0, h1, h0, n, m, mo, p1, p0, r1, r0, i3, i2, i1, i0, g1, g0] => do
    let enabled ← readFlag e
    let first ← readFlag mo
    let c : CompCfg :=
      { enabled := enabled, holdLimit := hl.toNat, low := readInt l1 l0, high := readInt h1 h0, trigger := n.toNat,
        clear := m.toNat, mode := if first then .firstOnly else .every, poolMax := (readHalf p1 p0).toNat,
        refillAmount := (readHalf r1 r0).toNat, refillInterval := (readWord i3 i2 i1 i0).toNat,
        minGrant := (readHalf g1 g0).toNat }
    if 1 ≤ c.holdLimit ∧ c.holdLimit ≤ 15 ∧ -880 ≤ c.low ∧ c.low < c.high ∧ c.high ≤ 2000 ∧ 1 ≤ c.trigger
        ∧ 1 ≤ c.clear ∧ c.poolMax ≤ 3600 ∧ c.refillAmount ≤ 3600 ∧ 60 ≤ c.refillInterval
        ∧ c.refillInterval ≤ 86400 ∧ 1 ≤ c.minGrant ∧ c.minGrant ≤ 3600 then some c else none
  | _ => none

/-- A CLASS entry that keeps every range and relation of R178. -/
def ClassCfg.read : List Byte → Option ClassCfg
  | [l1, l0, a1, a0, b1, b0, f1, f0, s1, s0, d1, d0, sl, u3, u2, u1, u0, w1, w0] =>
    let c : ClassCfg :=
      { limit := readInt l1 l0, b1 := readInt a1 a0, b2 := readInt b1 b0, floor := readInt f1 f0,
        shock := readInt s1 s0, doseLimit := (readHalf d1 d0).toNat, shockLimit := sl.toNat,
        unverifiedLimit := (readWord u3 u2 u1 u0).toNat, window := (readHalf w1 w0).toNat }
    if -880 ≤ c.limit ∧ c.limit ≤ 1999 ∧ 1 ≤ c.b1 ∧ c.b1 ≤ c.b2 ∧ c.b2 ≤ 2880 ∧ 0 ≤ c.floor ∧ c.floor ≤ 480
        ∧ c.limit < c.shock ∧ c.shock ≤ 2000 ∧ 1 ≤ c.doseLimit ∧ 1 ≤ c.shockLimit
        ∧ c.unverifiedLimit ≤ 86400 ∧ 1 ≤ c.window ∧ c.window ≤ 720 then some c else none
  | _ => none

/-- The settings with one entry replaced by the entry that the bytes spell; none where a field is out of its range
or a relation of the entry fails (R179, check 4). -/
def Settings.put (st : Settings) (r : EntryRef) (bytes : List Byte) : Option Settings :=
  match r with
  | .general => (General.read bytes).map fun x => { st with general := x }
  | .port p => (PortCfg.read bytes).map fun x => { st with ports := setAt st.ports p x }
  | .probe i => (ProbeCfg.read bytes).map fun x => { st with probes := setAt st.probes i x }
  | .door d => (DoorCfg.read bytes).map fun x => { st with doors := setAt st.doors d x }
  | .compartment c => (CompCfg.read bytes).map fun x => { st with comps := setAt st.comps c x }
  | .cls k => (ClassCfg.read bytes).map fun x => { st with classes := setAt st.classes k x }

end Sys2Proof.Machine
end

