-- ==== Sys2Proof/Machine/Records.lean ====
section
/-!
DEFINITION. The records that the blocks of the K46 hold, each with the fields its chapter gives it, and the value
each has when its chapter sets it afresh. Enumerated values stand in the code order of R182.
-/
namespace Sys2Proof.Machine

/-! ### Probe Scanner (chapter 1) -/

inductive Source where
  | liveProduct | liveAir | held | blind | noSource
  deriving DecidableEq, Repr

inductive Quality where
  | range | fault | silent | jump | confirmed | ok
  deriving DecidableEq, Repr

/-- An entry of a history ring (R7). -/
structure Sample where
  time : Time
  value : Option Int
  quality : Quality
  deriving DecidableEq, Repr

/-- A fault latch that is SET (R8). -/
structure FaultLatch where
  quality : Quality
  time : Time
  count : Nat
  deriving DecidableEq, Repr

/-- What the scanner keeps of one probe: the previous accepted value a, the jump-pending slot p, the history ring
oldest first, and the fault latch (section 1.3, R7, R8). -/
structure ProbeState where
  accepted : Option Int
  jumped : Option Int
  ring : List Sample
  latch : Option FaultLatch
  deriving DecidableEq, Repr

def ProbeState.fresh : ProbeState := { accepted := none, jumped := none, ring := [], latch := none }

/-- A compartment reading (R14). -/
structure Reading where
  comp : Comp
  time : Time
  step : Option Nat
  temp : Option Int
  source : Source
  deriving DecidableEq, Repr

/-- What the scanner keeps of one compartment (section 1.5): last live value, no-live count, latest reading. -/
structure CompScan where
  lastLive : Option Int
  noLive : Nat
  latest : Option Reading
  deriving DecidableEq, Repr

def CompScan.fresh : CompScan := { lastLive := none, noLive := 0, latest := none }

/-- One probe's part of the scan in flight: not read, being read, or complete with the trimmed value if the sample
was accepted. -/
inductive ReadState where
  | off
  | waiting
  | done (value : Option Int)
  deriving DecidableEq, Repr

/-- The scan in flight (R3). `shift` is the sum of the changes CLOCK_SET has made since the start (R68); `age` is
the time since the start in milliseconds (R4); `steps` is the step length of each compartment (R13). -/
structure Scan where
  time : Time
  shift : Time
  age : Nat
  period : Nat
  probes : Vector ProbeCfg 8
  enabled : Vector Bool 4
  hold : Vector Nat 4
  steps : Vector (Option Nat) 4
  reads : Vector ReadState 8
  deriving DecidableEq, Repr

/-- The scanner's own state: its elapsed-seconds count, the next due time and the period in force (R18), the start
of the previous scan with the compartments that scan found enabled (R13, R15), and the scan in flight. -/
structure Scanner where
  elapsed : Nat
  nextDue : Nat
  period : Nat
  lastStart : Option Nat
  lastEnabled : Vector Bool 4
  scan : Option Scan
  deriving DecidableEq, Repr

/-! ### Excursion Watch (chapter 2) -/

inductive WatchState where
  | normal | suspect | excursion | recovering
  deriving DecidableEq, Repr

inductive Side where
  | high | low
  deriving DecidableEq, Repr

/-- An excursion record (section 2.3). -/
structure Excursion where
  start : Time
  side : Side
  peak : Int
  count : Nat
  finish : Option Time
  noticed : Bool
  deriving DecidableEq, Repr

/-- A compartment's watch (section 2.2). -/
structure Watch where
  state : WatchState
  hits : Nat
  clears : Nat
  armed : Bool
  heldHits : Nat
  list : List Excursion
  deriving DecidableEq, Repr

/-- The watch after a full start (R36). -/
def Watch.fresh : Watch := { state := .normal, hits := 0, clears := 0, armed := true, heldHits := 0, list := [] }

/-! ### Door Monitor (chapter 3) -/

inductive DoorState where
  | unsettled | closed | opened | held
  deriving DecidableEq, Repr

inductive OpeningKind where
  | depot | scheduled | unscheduled
  deriving DecidableEq, Repr

inductive Cause where
  | change | rearm
  deriving DecidableEq, Repr

/-- A door latch that is LATCHED (section 3.5). `isOpen` is the latched level. -/
structure DoorLatch where
  isOpen : Bool
  time : Time
  kind : Option OpeningKind
  cause : Cause
  unreported : Nat
  deriving DecidableEq, Repr

/-- The open period of a door that stands open (R39): its start, its kind, and the held timer in seconds. -/
structure OpenPeriod where
  start : Time
  kind : Option OpeningKind
  held : Nat
  deriving DecidableEq, Repr

/-- What DRM keeps of one door. `high` is the electrical level at the input; `candidate` is how many milliseconds a
level that differs from the accepted one has been present (R38); `openTotal` is in milliseconds (R43) and `stopAcc`
is the stop accumulator in milliseconds (R47). -/
structure Door where
  high : Bool
  state : DoorState
  candidate : Option Nat
  lastChange : Option Time
  period : Option OpenPeriod
  latch : Option DoorLatch
  openTotal : Word
  stopAcc : Nat
  deriving DecidableEq, Repr

/-- A door as every kind of start sets it, the level at its input kept (R51). -/
def Door.fresh (high : Bool) : Door :=
  { high := high, state := .unsettled, candidate := some 0, lastChange := none, period := none, latch := none,
    openTotal := 0, stopAcc := 0 }

/-! ### Defrost Allowance (chapter 4) -/

inductive DefrostState where
  | idle | active | overrun
  deriving DecidableEq, Repr

inductive DeferReason where
  | disabled | defrosting | door | watch | pool | offer
  deriving DecidableEq, Repr

/-- The defrost record of the current or most recent defrost. -/
structure DefrostRecord where
  grant : Time
  poolAtGrant : Nat
  waivedSecs : Nat
  waivedSteps : Nat
  chargedSteps : Nat
  overrunAt : Option Time
  deriving DecidableEq, Repr

/-- The last ask: its time, and the reason it was DEFERRED for, or none where it was GRANTED. -/
structure Ask where
  time : Time
  deferred : Option DeferReason
  deriving DecidableEq, Repr

/-- A compartment's allowance; the refill timer counts seconds (R54). -/
structure Allowance where
  pool : Nat
  refill : Nat
  state : DefrostState
  record : Option DefrostRecord
  lastAsk : Option Ask
  deriving DecidableEq, Repr

/-- The allowance after a start with this pool (R64). -/
def Allowance.fresh (pool : Nat) : Allowance :=
  { pool := pool, refill := 0, state := .idle, record := none, lastAsk := none }

/-! ### Exposure Accountant (chapter 5) -/

/-- The last step record of a step base (R68). -/
structure StepRecord where
  time : Time
  d : Nat
  o : Nat
  source : Source
  temp : Option Int
  waived : Bool
  lots : Nat
  deriving DecidableEq, Repr

/-- A compartment's step base (R68). -/
structure StepBase where
  base : Option Time
  mark : Word
  last : Option StepRecord
  deriving DecidableEq, Repr

/-- The step base after a full start (R86). -/
def StepBase.fresh : StepBase := { base := none, mark := 0, last := none }

/-- An exposure account (R67); a snapshot is a copy of one (R82). `warm` is the tracker state WARM. -/
structure Account where
  dose : Nat
  waived : Nat
  saturated : Bool
  shocks : Nat
  warm : Bool
  unverified : Nat
  airSecs : Nat
  doorSecs : Nat
  peak : Option Int
  excursions : Nat
  openings : Nat
  gaps : Nat
  deriving DecidableEq, Repr

/-- The account as LOT_LOAD sets it (R67). -/
def Account.fresh : Account :=
  { dose := 0, waived := 0, saturated := false, shocks := 0, warm := false, unverified := 0, airSecs := 0,
    doorSecs := 0, peak := none, excursions := 0, openings := 0, gaps := 0 }

/-! ### Custody Store: lots (chapter 6) -/

inductive LotState where
  | stowed | onBoard | depleted | returned
  deriving DecidableEq, Repr

/-- The six quantities of a lot, in cartons (section 6.3). -/
structure Quantities where
  loaded : Nat
  onBoard : Nat
  offered : Nat
  delivered : Nat
  returned : Nat
  writtenOff : Nat
  deriving DecidableEq, Repr

/-- The quantities of a lot just loaded with `q` cartons (R92). -/
def Quantities.load (q : Nat) : Quantities :=
  { loaded := q, onBoard := q, offered := 0, delivered := 0, returned := 0, writtenOff := 0 }

structure DispatchReceipt where
  time : Time
  route : Half
  snap : Account
  deriving DecidableEq, Repr

structure ReturnReceipt where
  time : Time
  quantity : Nat
  snap : Account
  deriving DecidableEq, Repr

/-- The record of an occupied lot slot (R88). -/
structure Lot where
  number : Word
  cls : ClassNo
  comp : Comp
  qty : Quantities
  state : LotState
  joined : Bool
  acct : Account
  dispatched : Option DispatchReceipt
  returned : Option ReturnReceipt
  handoffs : List HIndex
  openClaims : Nat
  deriving DecidableEq, Repr

/-! ### Custody Store: route and stops (chapter 7) -/

inductive RouteState where
  | noRoute | loading | dispatched | returned
  deriving DecidableEq, Repr

/-- The route record (R104). -/
structure Route where
  number : Option Half
  state : RouteState
  beginTime : Option Time
  dispatchTime : Option Time
  returnTime : Option Time
  openStop : Option StopNo
  deriving DecidableEq, Repr

/-- The route record after a full start (R104, R120). -/
def Route.fresh : Route :=
  { number := none, state := .noRoute, beginTime := none, dispatchTime := none, returnTime := none, openStop := none }

inductive StopState where
  | planned | opened | closed | skipped
  deriving DecidableEq, Repr

/-- A stop record (R106); its number is its place in the table. `offers` lists the handoffs offered while the stop
was OPEN, and `accepted` the quantities accepted at the close, one for each planned entry (R115, R119). -/
structure Stop where
  consignee : Word
  mask : Word
  budget : Nat
  limit : Nat
  planned : List (Word × Nat)
  state : StopState
  outOfOrder : Bool
  late : Bool
  doorOver : Bool
  short : Bool
  openTime : Option Time
  closeTime : Option Time
  doorSecs : Vector Nat 4
  timer : Option Nat
  offers : List HIndex
  accepted : List Nat
  deriving DecidableEq, Repr

/-! ### Custody Store: handoffs (chapter 8) -/

inductive HandoffState where
  | offered | proofReady | settled | lapsed | withdrawn | refused
  deriving DecidableEq, Repr

inductive Condition where
  | good | noted
  deriving DecidableEq, Repr

inductive EReason where
  | idMismatch | copyMismatch
  deriving DecidableEq, Repr

/-- The proof record (R132). `openings` is the count that R42 copies into it; the 35 bytes of R184 do not carry it
(DESIGN CHOICE, log 21, unsafe). -/
structure Proof where
  index : HIndex
  route : Half
  stop : StopNo
  lot : Word
  cls : ClassNo
  accepted : Nat
  refused : Nat
  code : Word
  acceptTime : Time
  dm : Nat
  carrierDm : Nat
  shocks : Nat
  excursions : Nat
  openings : Nat
  unverified : Nat
  peak : Option Int
  cond : Condition
  unplanned : Bool
  a : Bool
  e : Option EReason
  deriving DecidableEq, Repr

/-- A handoff record (R123); its index is its place in the table. `ack` is the seconds remaining of a running ack
timer; `proof` is the proof record with its check value. -/
structure Handoff where
  slot : Slot
  route : Half
  stop : StopNo
  consignee : Word
  mask : Word
  q : Nat
  accepted : Nat
  refused : Nat
  code : Option Word
  cond : Option Condition
  unplanned : Bool
  a : Bool
  e : Option EReason
  c : Bool
  snap : Option Account
  offerTime : Time
  acceptTime : Option Time
  settleTime : Option Time
  endTime : Option Time
  proof : Option (Proof × Half)
  ack : Option Nat
  state : HandoffState
  deriving DecidableEq, Repr

/-! ### Claim Assessor (chapter 9) -/

inductive ClaimState where
  | lodged | assessing | decided | withdrawn
  deriving DecidableEq, Repr

inductive Verdict where
  | rejected | upheldCarrier | upheldDepot | referred
  deriving DecidableEq, Repr

inductive Referral where
  | identity | copy | record
  deriving DecidableEq, Repr

/-- The figures of an assessment (R149). -/
structure Figures where
  totalDm : Nat
  depotDm : Nat
  carrierDm : Nat
  shocks : Nat
  unverified : Nat
  deriving DecidableEq, Repr

/-- A claim record (R141). -/
structure Claim where
  number : Nat
  handoff : HIndex
  lot : Word
  claimant : Word
  quantity : Nat
  lodgeTime : Time
  state : ClaimState
  verdict : Option Verdict
  reason : Option Referral
  figures : Option Figures
  decideTime : Option Time
  endTime : Option Time
  fetched : Bool
  deriving DecidableEq, Repr

/-- The assessor when BUSY: the claim it holds (none once that claim was withdrawn and freed), the start time, the
discard mark, and the copies of R148. -/
structure Assessment where
  claim : Option Nat
  start : Time
  discard : Bool
  snap : Account
  a : Bool
  e : Option EReason
  c : Bool
  accepted : Nat
  dispatchSnap : Account
  doseLimit : Nat
  shockLimit : Nat
  unverifiedLimit : Nat
  deriving DecidableEq, Repr

/-! ### Link Ports (chapters 10 and 11) -/

/-- Status codes (section 10.3). -/
inductive Status where
  | ok | pending | deferred | busy | notReady | noRight | badRequest | range | state | full | unknown | duplicate
  | tooLate | inUse | doorOpen | clockUnset | windowOpen | claimant
  deriving DecidableEq, Repr

/-- A notice's kind with the fields of its body (R183). -/
inductive NoticeBody where
  | excursionStart (c : Comp) (start : Time) (side : Side) (temp : Int)
  | excursionEnd (c : Comp) (start finish : Time) (side : Side) (peak : Int) (count : Nat)
  | doorHeld (d : Comp) (start : Time) (kind : Option OpeningKind)
  | doorOver (stop : StopNo) (budget sum : Nat)
  | unscheduledOpening (d : Comp) (time : Time) (lots : Nat)
  | defrostOverrun (c : Comp) (time : Time) (d pool : Nat) (grant : Time) (waivedSecs : Nat)
  | stopLate (stop : StopNo) (openTime : Time) (limit : Nat)
  | doorChange (d : Comp) (isOpen : Bool) (time : Time) (kind : Option OpeningKind) (cause : Cause)
  | probeFault (i : Probe) (quality : Quality) (time : Time)
  | proofReady (i : HIndex) (lot : Word) (check : Half)
  | handoffLapsed (i : HIndex) (lot : Word) (stop : StopNo) (q : Nat)
  | claimDecided (number : Nat) (i : HIndex) (lot : Word) (verdict : Verdict) (reason : Option Referral)
  | reportReady (lot : Word) (pages : Nat)
  | scanSummary (readings : List Reading)
  deriving DecidableEq, Repr

/-- A notice in a queue: its kind and body, and its posting time (section 11.1). -/
structure Notice where
  body : NoticeBody
  time : Time
  deriving DecidableEq, Repr

/-- The receiver (R159): IN_FRAME holds the bytes after START, and the milliseconds of silence. -/
inductive Receiver where
  | hunting
  | inFrame (bytes : List Byte) (silence : Nat)
  | broken
  deriving DecidableEq, Repr

/-- What follows once a response has been sent in full or dropped: the start of a RESTART (R180), or a step nearer
to the effect of a PORT entry (R158). -/
inductive After where
  | nothing
  | restart
  | port (p : Port)
  deriving DecidableEq, Repr

/-- A response that has been made; its attention code is composed when it begins to be sent (R162). -/
structure Response where
  kind : Byte
  status : Status
  tag : Byte
  body : List Byte
  after : After
  deriving DecidableEq, Repr

/-- The frame a transmitter is sending, with the attention code composed at its beginning. -/
inductive TxFrame where
  | response (r : Response) (attention : Nat)
  | notice (n : Notice) (attention : Nat)
  deriving DecidableEq, Repr

/-- The last refusal of a port (R165). -/
structure Refused where
  kind : Byte
  status : Status
  time : Time
  deriving DecidableEq, Repr

/-- An accepted change of a PORT entry that has not taken effect (R158): the new values, the port whose response is
waited for, and whether that response has been sent or dropped. -/
structure PortChange where
  role : Role
  baud : Baud
  sender : Port
  due : Bool
  deriving DecidableEq, Repr

/-- What each port holds (chapter 10, section 11.1). `changes` are the accepted changes of its PORT entry that have not
taken effect, in the order in which they were accepted (R158). `request` is the response to the request taken and not
yet fully answered; none is request state IDLE. `bid` is the scan bid as requested. -/
structure PortState where
  role : Role
  baud : Baud
  changes : List PortChange
  rx : Receiver
  request : Option Response
  tx : Option TxFrame
  good : Nat
  errored : Nat
  lost : Nat
  refusal : Option Refused
  refusals : Nat
  bid : Option Nat
  urgent : List Notice
  routine : List Notice
  sending : Bool
  droppedRoutine : Nat
  droppedUrgent : Bool
  deriving DecidableEq, Repr

/-- A port as every kind of start sets it, with the role and baud of the settings loaded (R173, R176). A notice that the
port was sending is cut off, and the receiver hunts even on a line that is still spacing (DESIGN CHOICE, log 22,
unsafe). -/
def PortState.fresh (cfg : PortCfg) : PortState :=
  { role := cfg.role, baud := cfg.baud, changes := [], rx := .hunting, request := none, tx := none, good := 0,
    errored := 0, lost := 0, refusal := none, refusals := 0, bid := none, urgent := [], routine := [],
    sending := true, droppedRoutine := 0, droppedUrgent := false }

/-- The report slot when it is not FREE (section 10.6). `timer` is none while COMPOSING, and the seconds left of the
discard timer when READY. -/
structure Report where
  holder : Port
  lot : Word
  time : Time
  slot : Slot
  copy : Lot
  handoffs : List (HIndex × Handoff)
  timer : Option Nat
  deriving DecidableEq, Repr

/-! ### Settings and Start (chapter 11) -/

/-- The settings store: its contents, and whether they pass their CRC check (R179, R180). -/
structure Store where
  contents : Settings
  valid : Bool
  deriving DecidableEq, Repr

inductive StartCause where
  | powerUp | restart
  deriving DecidableEq, Repr

/-- Main power absent, STARTING, or READY (section 11.4). -/
inductive Phase where
  | off
  | starting (cause : StartCause)
  | ready
  deriving DecidableEq, Repr

end Sys2Proof.Machine
end

