-- ==== Sys2Proof/Machine/State.lean ====
section
/-!
DEFINITION. The state of the K46: everything the spec gives its nine blocks, as plain data, and the queue of the
commands that wait. INVENTORY.md lists every piece with its rule and its reset value.
-/
namespace Sys2Proof.Machine

/-- The state of the K46. -/
structure State where
  /-- the MODEL's own: the commands that wait, first in first out -/
  pending : List Instr
  /-- main power, STARTING or READY (SST, section 11.4) -/
  phase : Phase
  /-- active copy of the settings (SST, section 11.3) -/
  settings : Settings
  /-- non-volatile settings store (SST, section 11.3) -/
  store : Store
  /-- a store write is in flight (R179) -/
  storeWrite : Bool
  /-- the defaulted flag (R179) -/
  defaulted : Bool
  /-- a RESTART has been taken whose start has not yet begun (R179, R180) -/
  restartTaken : Bool
  /-- the response to a RESTART has been sent in full or dropped: its start may begin (R180) -/
  restartDue : Bool
  /-- the marker of the retained memory is good, and the backup supply has held since it was written (R180) -/
  marker : Bool
  /-- the seconds count (R181) -/
  seconds : Time
  /-- the MODEL's own: milliseconds since the seconds count last advanced -/
  subMs : Nat
  /-- the clock unset flag (R181) -/
  clockUnset : Bool
  /-- scanner's elapsed seconds, due time, period in force, scan in flight (PSC) -/
  scanner : Scanner
  /-- accepted values, pending slots, history rings, fault latches (PSC) -/
  probes : Vector ProbeState 8
  /-- last live value, no-live count, latest reading (PSC) -/
  comps : Vector CompScan 4
  /-- the watches (EXW) -/
  watches : Vector Watch 4
  /-- the doors (DRM) -/
  doors : Vector Door 4
  /-- the allowances (DFA) -/
  defrosts : Vector Allowance 4
  /-- the step bases (EXA) -/
  bases : Vector StepBase 4
  /-- the lot table; none is FREE (CST) -/
  lots : Vector (Option Lot) 64
  /-- the route record (CST) -/
  route : Route
  /-- the stop table (CST) -/
  stops : Vector (Option Stop) 32
  /-- the handoff table (CST) -/
  handoffs : Vector (Option Handoff) 128
  /-- the occupied entries of the claim table, in lodging order (CLA) -/
  claims : List Claim
  /-- the next claim number (R143) -/
  nextClaim : Nat
  /-- the assessor; none is IDLE (R147) -/
  assessor : Option Assessment
  /-- the link ports (LPT) -/
  ports : Vector PortState 3
  /-- the report slot; none is FREE (LPT) -/
  report : Option Report
  /-- the MODEL's own: how many free values have been drawn -/
  draws : Nat
  deriving DecidableEq, Repr

/-- The reasons a step can stop with a fault: none. The spec names no event that stops the K46: every request is
answered with a status (section 10.3), and an event whose conditions do not hold does not occur (DESIGN CHOICE, log 1,
safe). -/
inductive Fault where
  deriving DecidableEq, Repr

/-- The reasons a command can be refused. -/
inductive Refusal where
  /-- Raised by `exec` alone, for a command that has no meaning yet. Safe: the model stops. No arm raises it. -/
  | notModelled (mnemonic : String)
  deriving DecidableEq, Repr

/-- Right after reset: STARTING, begun by power-up or RSTN with the retained memory lost, the settings loaded from
a store that holds the factory values (DESIGN CHOICE, log 5, unsafe). The next START_READY completes a full start
(R180). -/
def State.reset : State where
  pending := []
  phase := .starting .powerUp
  settings := Settings.factory
  store := { contents := Settings.factory, valid := true }
  storeWrite := false
  defaulted := false
  restartTaken := false
  restartDue := false
  marker := false
  seconds := 0
  subMs := 0
  clockUnset := true
  scanner := { elapsed := 0, nextDue := 0, period := 30, lastStart := none,
               lastEnabled := Vector.replicate 4 false, scan := none }
  probes := Vector.replicate 8 ProbeState.fresh
  comps := Vector.replicate 4 CompScan.fresh
  watches := Vector.replicate 4 Watch.fresh
  doors := Vector.replicate 4 (Door.fresh false)
  defrosts := Vector.replicate 4 (Allowance.fresh 1200)
  bases := Vector.replicate 4 StepBase.fresh
  lots := Vector.replicate 64 none
  route := Route.fresh
  stops := Vector.replicate 32 none
  handoffs := Vector.replicate 128 none
  claims := []
  nextClaim := 1
  assessor := none
  ports := #v[PortState.fresh ⟨.cab, .b19200⟩, PortState.fresh ⟨.cooling, .b19200⟩, PortState.fresh ⟨.dock, .b19200⟩]
  report := none
  draws := 0

end Sys2Proof.Machine
end

