-- ==== Sys2Proof/Machine/Flags.lean ====
section
/-!
DEFINITION. The conditions that other blocks and parties read off the state: which lots are accounting (R66), which
states of a record its table calls ended or live, the door level, and the attention code (R177).
-/
namespace Sys2Proof.Machine

/-- A lot is accounting when it is STOWED or ON_BOARD with cartons on board or on offer (R66). -/
def Lot.accounting (l : Lot) : Bool :=
  (l.state == .stowed || l.state == .onBoard) && decide (0 < l.qty.onBoard + l.qty.offered)

/-- A lot accounting in compartment `c` (R30). -/
def Lot.accountingIn (c : Comp) (l : Lot) : Bool := l.accounting && l.comp == c

/-- A lot that a step of compartment `c` is charged to (R66). -/
def Lot.chargedIn (c : Comp) (l : Lot) : Bool := l.accountingIn c && l.joined

/-- OPEN and HELD both mean that the door stands open (R39). -/
def Door.isOpen (d : Door) : Bool := d.state == .opened || d.state == .held

/-- The level at a door's input once polarity has been applied (R37). -/
def Door.inputOpen (cfg : DoorCfg) (d : Door) : Bool :=
  match cfg.polarity with
  | .openHigh => d.high
  | .openLow => !d.high

/-- Whether the level at the input differs from the accepted one; an UNSETTLED door has accepted none (R38, R39). -/
def Door.differs (cfg : DoorCfg) (d : Door) : Bool :=
  match d.state with
  | .unsettled => true
  | .closed => d.inputOpen cfg
  | .opened => !d.inputOpen cfg
  | .held => !d.inputOpen cfg

/-- The watch is in EXCURSION or RECOVERING. -/
def Watch.out (w : Watch) : Bool := w.state == .excursion || w.state == .recovering

/-- A claim that is LODGED or ASSESSING is live (R142). -/
def Claim.live (c : Claim) : Bool := c.state == .lodged || c.state == .assessing

/-- A claim that is live or DECIDED holds its handoff (R142). -/
def Claim.holds (c : Claim) : Bool := c.live || c.state == .decided

/-- A handoff still waiting on the consignee. -/
def Handoff.waiting (h : Handoff) : Bool := h.state == .offered || h.state == .proofReady

/-- A source of live readings (R11). -/
def Source.live : Source → Bool
  | .liveProduct | .liveAir => true
  | .held | .blind | .noSource => false

/-- The stop that is OPEN, with its number (R104). -/
def State.currentStop (s : State) : Option (StopNo × Stop) :=
  match s.route.openStop with
  | some n => (s.stops.get n).map fun st => (n, st)
  | none => none

/-- The statuses that are refusals (R165). -/
def Status.isRefusal : Status → Bool
  | .ok | .pending | .deferred => false
  | _ => true

/-- Whether attention condition `n` holds, composed for port `p` (R177). -/
def attentionHolds (s : State) (p : Port) : Nat → Bool
  | 15 => (s.ports.get p).droppedUrgent
  | 12 => s.watches.toList.any Watch.out
  | 11 => s.defrosts.toList.any fun a => a.state == .overrun
  | 10 => s.doors.toList.any fun d => d.state == .held
  | 9 => (s.currentStop.map fun x => x.2.doorOver).getD false
  | 8 => s.doors.toList.any fun d => d.latch.isSome
  | 7 => (s.currentStop.map fun x => x.2.late).getD false
  | 6 => s.probes.toList.any fun x => x.latch.isSome
  | 5 => s.comps.toList.any fun c => match c.latest with
    | some r => r.source == .blind
    | none => false
  | 4 => s.handoffs.toList.any fun h => match h with
    | some h => h.waiting
    | none => false
  | 3 => s.claims.any fun c => c.state == .decided && !c.fetched
  | 2 => s.defaulted
  | 1 => s.clockUnset
  | _ => false

/-- The attention code for port `p`: the highest-numbered condition that holds, or 0 (R177). -/
def attention (s : State) (p : Port) : Nat :=
  ([15, 12, 11, 10, 9, 8, 7, 6, 5, 4, 3, 2, 1].find? (attentionHolds s p)).getD 0

end Sys2Proof.Machine
end

