-- ==== Sys2Proof/Machine/Formats.lean ====
section
/-!
DEFINITION. The formats of chapter 12: the codes of enumerated values, absence, the CRC-16, the records of R184,
the notices of R183, and the bytes of a frame on the wire (R182). Where a body's layout is not spelled out, log 6
gives the reading (DEDUCED or DESIGN CHOICE, unsafe).
-/
namespace Sys2Proof.Machine

/-! ### Enumerated values (R182) -/

def Source.code : Source → Nat
  | .liveProduct => 0 | .liveAir => 1 | .held => 2 | .blind => 3 | .noSource => 4
def Quality.code : Quality → Nat
  | .range => 0 | .fault => 1 | .silent => 2 | .jump => 3 | .confirmed => 4 | .ok => 5
def WatchState.code : WatchState → Nat
  | .normal => 0 | .suspect => 1 | .excursion => 2 | .recovering => 3
def Side.code : Side → Nat
  | .high => 0 | .low => 1
def DoorState.code : DoorState → Nat
  | .unsettled => 0 | .closed => 1 | .opened => 2 | .held => 3
def OpeningKind.code : OpeningKind → Nat
  | .depot => 0 | .scheduled => 1 | .unscheduled => 2
def Cause.code : Cause → Nat
  | .change => 0 | .rearm => 1
def DefrostState.code : DefrostState → Nat
  | .idle => 0 | .active => 1 | .overrun => 2
def DeferReason.code : DeferReason → Nat
  | .disabled => 0 | .defrosting => 1 | .door => 2 | .watch => 3 | .pool => 4 | .offer => 5
def LotState.code : LotState → Nat
  | .stowed => 0 | .onBoard => 1 | .depleted => 2 | .returned => 3
def RouteState.code : RouteState → Nat
  | .noRoute => 0 | .loading => 1 | .dispatched => 2 | .returned => 3
def StopState.code : StopState → Nat
  | .planned => 0 | .opened => 1 | .closed => 2 | .skipped => 3
def HandoffState.code : HandoffState → Nat
  | .offered => 0 | .proofReady => 1 | .settled => 2 | .lapsed => 3 | .withdrawn => 4 | .refused => 5
def Condition.code : Condition → Nat
  | .good => 0 | .noted => 1
def EReason.code : EReason → Nat
  | .idMismatch => 0 | .copyMismatch => 1
def ClaimState.code : ClaimState → Nat
  | .lodged => 0 | .assessing => 1 | .decided => 2 | .withdrawn => 3
def Verdict.code : Verdict → Nat
  | .rejected => 0 | .upheldCarrier => 1 | .upheldDepot => 2 | .referred => 3
def Referral.code : Referral → Nat
  | .identity => 0 | .copy => 1 | .record => 2

/-- The STATUS byte (section 12.1). -/
def Status.code : Status → Byte
  | .ok => 0x00 | .pending => 0x01 | .deferred => 0x02 | .busy => 0x10 | .notReady => 0x11 | .noRight => 0x12
  | .badRequest => 0x13 | .range => 0x14 | .state => 0x15 | .full => 0x16 | .unknown => 0x17 | .duplicate => 0x18
  | .tooLate => 0x19 | .inUse => 0x1A | .doorOpen => 0x1B | .clockUnset => 0x1C | .windowOpen => 0x1D
  | .claimant => 0x1E

/-! ### Fields (R182) -/

/-- A time. -/
def timeBytes (t : Time) : List Byte := wordBytes t
/-- A temperature that may be absent: 0x8000 stands for absent. -/
def tempBytes (t : Option Int) : List Byte := (t.map t16).getD [0x80, 0x00]
/-- A step length; 0 stands for absent. -/
def stepLen (d : Option Nat) : List Byte := u16 (d.getD 0)
/-- A field or part of `n` bytes that may be absent: a presence flag, then its bytes, each 0 where it is absent. -/
def opt {α : Type} (n : Nat) (f : α → List Byte) : Option α → List Byte
  | some x => 1 :: f x
  | none => 0 :: List.replicate n 0
/-- A list of varying length: an entry count, then the entries. -/
def counted {α : Type} (f : α → List Byte) (xs : List α) : List Byte := u8 xs.length ++ xs.flatMap f

/-! ### CRC-16 (R182) -/

/-- Shifts `k` bits through the register. -/
def crcShift : Nat → Half → Half
  | 0, r => r
  | k + 1, r => crcShift k (if r.msb then (r <<< 1) ^^^ 0x1021 else r <<< 1)

/-- One byte, most significant bit first. -/
def crcByte (r : Half) (b : Byte) : Half := crcShift 8 (r ^^^ (b ++ (0 : Byte)))

/-- The CRC-16 of R182: polynomial x^16 + x^12 + x^5 + 1, register from 0xFFFF, no inversion. -/
def crc16 (bytes : List Byte) : Half := bytes.foldl crcByte 0xFFFF

/-! ### Records (R184) -/

/-- The DM of a dose (R81). -/
def dm (dose : Nat) : Nat := dose / 960
/-- A DM in a field of 16 bits (R81). -/
def dm16 (n : Nat) : Nat := min n 65535

/-- A snapshot, 27 bytes. The bits of the flags byte that R184 does not name are 0 (DESIGN CHOICE, log 6, unsafe). -/
def Account.bytes (a : Account) : List Byte :=
  u32 a.dose ++ u32 a.waived ++ u8 ((if a.saturated then 1 else 0) + (if a.warm then 2 else 0)) ++ u8 a.shocks
    ++ u32 a.unverified ++ u32 a.airSecs ++ u32 a.doorSecs ++ tempBytes a.peak ++ u8 a.excursions ++ u8 a.openings
    ++ u8 a.gaps

/-- Bits 5 and 4 of a flags byte: E, and its reason. -/
def eBits (e : Option EReason) : Nat :=
  match e with
  | none => 0
  | some r => 32 + 16 * r.code

/-- The proof record, 35 bytes. -/
def Proof.bytes (p : Proof) : List Byte :=
  u8 p.index.val ++ halfBytes p.route ++ u8 p.stop.val ++ wordBytes p.lot ++ u8 p.cls.val ++ u16 p.accepted
    ++ u16 p.refused ++ wordBytes p.code ++ timeBytes p.acceptTime ++ u16 p.dm ++ u16 p.carrierDm ++ u8 p.shocks
    ++ u8 p.excursions ++ u32 p.unverified ++ tempBytes p.peak ++ u8 p.cond.code
    ++ u8 ((if p.a then 128 else 0) + eBits p.e + (if p.unplanned then 8 else 0))

def DispatchReceipt.bytes (r : DispatchReceipt) : List Byte := timeBytes r.time ++ halfBytes r.route ++ r.snap.bytes
def ReturnReceipt.bytes (r : ReturnReceipt) : List Byte := timeBytes r.time ++ u16 r.quantity ++ r.snap.bytes

def Quantities.bytes (q : Quantities) : List Byte :=
  u16 q.loaded ++ u16 q.onBoard ++ u16 q.offered ++ u16 q.delivered ++ u16 q.returned ++ u16 q.writtenOff

/-- What page 0 of a report carries after its header, 113 bytes. -/
def Lot.reportBytes (slot : Slot) (l : Lot) : List Byte :=
  u8 slot.val ++ u8 l.cls.val ++ u8 l.comp.val ++ u8 l.state.code ++ flag l.joined ++ l.qty.bytes ++ u8 l.openClaims
    ++ l.acct.bytes ++ opt 33 DispatchReceipt.bytes l.dispatched ++ opt 33 ReturnReceipt.bytes l.returned

/-- A handoff summary of a report page, 55 bytes. -/
def Handoff.summary (x : HIndex × Handoff) : List Byte :=
  let h := x.2
  let finish := match h.state with
    | .settled => h.settleTime
    | .lapsed => h.endTime
    | .withdrawn => h.endTime
    | _ => none
  u8 x.1.val ++ u8 h.state.code ++ u8 h.stop.val ++ u16 h.q ++ u16 h.accepted
    ++ u8 ((if h.a then 128 else 0) + (if h.c then 64 else 0) + eBits h.e + (if h.unplanned then 8 else 0)
      + (if h.cond = some .noted then 4 else 0) + (if h.acceptTime.isSome then 2 else 0)
      + (if h.proof.isSome then 1 else 0))
    ++ wordBytes (h.code.getD 0) ++ timeBytes h.offerTime ++ timeBytes (h.acceptTime.getD 0)
    ++ timeBytes (finish.getD 0)
    ++ halfBytes ((h.proof.map (·.2)).getD 0)
    ++ ((h.snap.map Account.bytes).getD (List.replicate 27 0)) ++ halfBytes h.route

/-- The page count of a report, 1 + ceil(h / 4) (section 10.6). -/
def Report.pages (r : Report) : Nat := 1 + (r.handoffs.length + 3) / 4

/-- The body of a report page (R170, R184). -/
def Report.page (r : Report) (n : Nat) : List Byte :=
  wordBytes r.lot ++ timeBytes r.time ++ u8 n ++ u8 r.pages ++
    (if n = 0 then r.copy.reportBytes r.slot
     else counted Handoff.summary ((r.handoffs.drop (4 * (n - 1))).take 4))

/-- A reading as SCAN_SUMMARY carries it, 10 bytes (R183). -/
def Reading.bytes (r : Reading) : List Byte :=
  u8 r.comp.val ++ timeBytes r.time ++ stepLen r.step ++ tempBytes r.temp ++ u8 r.source.code

/-- An excursion record in a response body, 15 bytes. -/
def Excursion.bytes (e : Excursion) : List Byte :=
  timeBytes e.start ++ u8 e.side.code ++ t16 e.peak ++ u16 e.count ++ opt 4 timeBytes e.finish ++ flag e.noticed

/-- A door latch in a response body, 10 bytes: CLEAR or LATCHED, then its fields as a part that may be absent. -/
def DoorLatch.bytes (l : Option DoorLatch) : List Byte :=
  u8 (if l.isSome then 1 else 0) ++
    opt 9 (fun l : DoorLatch => flag l.isOpen ++ timeBytes l.time ++ opt 1 (fun k => u8 (OpeningKind.code k)) l.kind
      ++ u8 l.cause.code ++ u8 l.unreported) l

/-- A defrost record in a response body, 19 bytes. -/
def DefrostRecord.bytes (r : DefrostRecord) : List Byte :=
  timeBytes r.grant ++ u16 r.poolAtGrant ++ u32 r.waivedSecs ++ u16 r.waivedSteps ++ u16 r.chargedSteps
    ++ opt 4 timeBytes r.overrunAt

/-- The last ask in a response body, 7 bytes. -/
def Ask.bytes (a : Ask) : List Byte :=
  timeBytes a.time ++ u8 (if a.deferred.isSome then 1 else 0) ++ opt 1 (fun r => u8 (DeferReason.code r)) a.deferred

/-- A last step record in a response body, 13 bytes. -/
def StepRecord.bytes (r : StepRecord) : List Byte :=
  timeBytes r.time ++ u16 r.d ++ u16 r.o ++ u8 r.source.code ++ tempBytes r.temp
    ++ u8 (if r.waived then 0 else 1) ++ u8 r.lots

/-- The refusal record in a response body: code, status and time or absent, then the refusal count. -/
def PortState.refusalBytes (ps : PortState) : List Byte :=
  opt 6 (fun r : Refused => [r.kind, r.status.code] ++ timeBytes r.time) ps.refusal ++ u8 ps.refusals

/-! ### Notices (R183) -/

/-- An opening kind in a notice: 0xFF for none. -/
def kindByte (k : Option OpeningKind) : List Byte := u8 ((k.map OpeningKind.code).getD 0xFF)

/-- The notice code. -/
def NoticeBody.code : NoticeBody → Byte
  | .excursionStart .. => 0x01 | .excursionEnd .. => 0x02 | .doorHeld .. => 0x03 | .doorOver .. => 0x04
  | .unscheduledOpening .. => 0x05 | .defrostOverrun .. => 0x06 | .stopLate .. => 0x07 | .doorChange .. => 0x08
  | .probeFault .. => 0x09 | .proofReady .. => 0x0A | .handoffLapsed .. => 0x0B | .claimDecided .. => 0x0C
  | .reportReady .. => 0x0D | .scanSummary .. => 0x0E

/-- The notice's BODY. -/
def NoticeBody.bytes : NoticeBody → List Byte
  | .excursionStart c start side t => u8 c.val ++ timeBytes start ++ u8 side.code ++ t16 t
  | .excursionEnd c start finish side peak n =>
    u8 c.val ++ timeBytes start ++ timeBytes finish ++ u8 side.code ++ t16 peak ++ u16 n
  | .doorHeld d start kind => u8 d.val ++ timeBytes start ++ kindByte kind
  | .doorOver stop budget sum => u8 stop.val ++ u16 budget ++ u32 sum
  | .unscheduledOpening d t lots => u8 d.val ++ timeBytes t ++ u8 lots
  | .defrostOverrun c t d pool grant w => u8 c.val ++ timeBytes t ++ u16 d ++ u16 pool ++ timeBytes grant ++ u32 w
  | .stopLate stop t limit => u8 stop.val ++ timeBytes t ++ u16 limit
  | .doorChange d isOpen t kind cause => u8 d.val ++ flag isOpen ++ timeBytes t ++ kindByte kind ++ u8 cause.code
  | .probeFault i q t => u8 i.val ++ u8 q.code ++ timeBytes t
  | .proofReady i lot check => u8 i.val ++ wordBytes lot ++ halfBytes check
  | .handoffLapsed i lot stop q => u8 i.val ++ wordBytes lot ++ u8 stop.val ++ u16 q
  | .claimDecided n i lot v r =>
    u16 n ++ u8 i.val ++ wordBytes lot ++ u8 v.code ++ u8 ((r.map Referral.code).getD 0xFF)
  | .reportReady lot pages => wordBytes lot ++ u8 pages
  | .scanSummary rs => counted Reading.bytes rs

/-! ### Frames (R182) -/

/-- START, LEN, header with BODY, CHECK. -/
def frameBytes (content : List Byte) : List Byte :=
  let covered := u8 content.length ++ content
  0xA5 :: covered ++ halfBytes (crc16 covered)

/-- The bytes of a request frame. -/
def requestFrame (kind tag : Byte) (body : List Byte) : List Byte := frameBytes (kind :: tag :: body)

/-- The bytes that a transmitter sends for a frame. -/
def TxFrame.bytes : TxFrame → List Byte
  | .response r attention => frameBytes ([r.kind, r.status.code, BitVec.ofNat 8 attention, r.tag] ++ r.body)
  | .notice n attention =>
    frameBytes ([0xF0, n.body.code, BitVec.ofNat 8 attention] ++ timeBytes n.time ++ n.body.bytes)

end Sys2Proof.Machine
end

