-- ==== Sys2Proof/Machine/Operands.lean ====
section
/-!
DEFINITION. What a request's operands name: the right of a role to a request (R164), a lot by its number (R88), and
the matching of a presented code (R108). Indexes within a table are read by `indexIn`, which is none out of range.
-/
namespace Sys2Proof.Machine

/-- The roles that have a right to a defined request code (R164). -/
def roles (kind : Byte) : List Role :=
  match kind.toNat with
  | 0x01 => [.cab, .dock, .cooling, .noRole]
  | 0x02 | 0x03 | 0x04 | 0x05 | 0x07 => [.cab, .dock, .cooling]
  | 0x10 | 0x11 | 0x14 | 0x16 => [.cab, .dock, .cooling]
  | 0x24 | 0x25 | 0x2E | 0x34 => [.cab, .dock, .cooling]
  | 0x12 | 0x13 => [.dock, .cooling]
  | 0x15 => [.cab, .cooling]
  | 0x17 | 0x18 => [.cooling]
  | 0x21 | 0x22 | 0x38 | 0x3A => [.cab, .dock]
  | 0x2C | 0x2D => [.cab]
  | 0x30 | 0x31 | 0x32 | 0x33 => [.cab]
  | 0x20 | 0x23 | 0x28 | 0x29 | 0x2A | 0x2B => [.dock]
  | 0x39 | 0x3B | 0x3C | 0x26 => [.dock]
  | 0x08 | 0x06 | 0x09 => [.dock]
  | _ => []

/-- Whether a role may make a request (R164). -/
def hasRight (kind : Byte) (r : Role) : Bool := (roles kind).contains r

/-- The occupied slot that holds a lot number, with its record (R88). -/
def State.lotNamed (s : State) (number : Word) : Option (Slot × Lot) :=
  (List.finRange 64).findSome? fun i =>
    match s.lots.get i with
    | some l => if l.number = number then some (i, l) else none
    | none => none

/-- The lowest-numbered FREE slot (R88). -/
def State.freeSlot (s : State) : Option Slot := (List.finRange 64).find? fun i => (s.lots.get i).isNone

/-- The lowest free index of the handoff table (R122). -/
def State.freeIndex (s : State) : Option HIndex := (List.finRange 128).find? fun i => (s.handoffs.get i).isNone

/-- A presented code `p` matches consignee code `x` under mask `m` (R108). -/
def codeMatches (p x m : Word) : Bool := (p ^^^ x) &&& m == 0

/-- The claim that a number names (R141). -/
def State.claimNamed (s : State) (number : Nat) : Option Claim := s.claims.find? fun c => c.number == number

end Sys2Proof.Machine
end

