-- ==== Sys2Proof/Machine/Ops.lean ====
section
/-!
DEFINITION. The operations that the meanings share: changing one entry of a table, the movements of cartons (R90),
posting a notice (R174, R175), taking a request and making its response (R161 to R165), the scan period in force
(R18), and the passing of time.
-/
namespace Sys2Proof.Machine

/-! ### One entry of a table -/

def State.modPort (s : State) (p : Port) (f : PortState → PortState) : State := { s with ports := modAt s.ports p f }
def State.modDoor (s : State) (d : Comp) (f : Door → Door) : State := { s with doors := modAt s.doors d f }
def State.modWatch (s : State) (c : Comp) (f : Watch → Watch) : State := { s with watches := modAt s.watches c f }
def State.modDefrost (s : State) (c : Comp) (f : Allowance → Allowance) : State :=
  { s with defrosts := modAt s.defrosts c f }
def State.modBase (s : State) (c : Comp) (f : StepBase → StepBase) : State := { s with bases := modAt s.bases c f }
def State.modComp (s : State) (c : Comp) (f : CompScan → CompScan) : State := { s with comps := modAt s.comps c f }
def State.modProbe (s : State) (i : Probe) (f : ProbeState → ProbeState) : State :=
  { s with probes := modAt s.probes i f }
/-- Changes the lot in a slot, if the slot is occupied. -/
def State.modLot (s : State) (i : Slot) (f : Lot → Lot) : State := { s with lots := modAt s.lots i (Option.map f) }
/-- Changes every lot. -/
def State.mapLots (s : State) (f : Lot → Lot) : State := { s with lots := mapV (Option.map f) s.lots }
/-- Changes the handoff at an index, if the entry is occupied. -/
def State.modHandoff (s : State) (i : HIndex) (f : Handoff → Handoff) : State :=
  { s with handoffs := modAt s.handoffs i (Option.map f) }
/-- Changes the record of a stop number, if there is one. -/
def State.modStop (s : State) (n : StopNo) (f : Stop → Stop) : State :=
  { s with stops := modAt s.stops n (Option.map f) }
/-- Changes the claim with a number. -/
def State.modClaim (s : State) (number : Nat) (f : Claim → Claim) : State :=
  { s with claims := s.claims.map fun c => if c.number = number then f c else c }

/-- How many lots have a property. -/
def State.countLots (s : State) (f : Lot → Bool) : Nat :=
  s.lots.toList.countP fun o => match o with
    | some l => f l
    | none => false

/-! ### Movements of cartons (section 6.3, R90)

Each takes from one quantity exactly what it gives to another, so loaded stays the sum of the rest. In every
reachable state the cartons asked for are there, and the lesser of the two is what was asked for (DESIGN CHOICE, log
15, safe). -/

/-- Cartons leave custody (R95). -/
def Quantities.writeOff (n : Nat) (x : Quantities) : Quantities :=
  let m := min n x.onBoard
  { x with onBoard := x.onBoard - m, writtenOff := x.writtenOff + m }

/-- Cartons go out on offer (R126). -/
def Quantities.offer (n : Nat) (x : Quantities) : Quantities :=
  let m := min n x.onBoard
  { x with onBoard := x.onBoard - m, offered := x.offered + m }

/-- Of `n` cartons on offer, `a` are accepted and the rest come back on board (R131); with `a = 0` all come back. -/
def Quantities.answer (n a : Nat) (x : Quantities) : Quantities :=
  let m := min n x.offered
  let k := min a m
  { x with offered := x.offered - m, delivered := x.delivered + k, onBoard := x.onBoard + (m - k) }

/-- Cartons on offer come back on board (R124). -/
def Quantities.takeBack (n : Nat) (x : Quantities) : Quantities := x.answer n 0

/-- Everything on board is brought back to the depot (R117). -/
def Quantities.bringBack (x : Quantities) : Quantities :=
  { x with onBoard := 0, returned := x.returned + x.onBoard }

/-- The state is judged with the quantities: nothing on board or on offer is DEPLETED (R89). -/
def Lot.judge (l : Lot) : Lot :=
  if l.qty.onBoard = 0 ∧ l.qty.offered = 0 then { l with state := .depleted } else l

/-- The lot's quantities are moved. -/
def Lot.move (f : Quantities → Quantities) (l : Lot) : Lot := { l with qty := f l.qty }

/-! ### Notices (R174, R175) -/

/-- Whether a notice is urgent (R174; DOOR_CHANGE by R44). -/
def NoticeBody.urgent : NoticeBody → Bool
  | .excursionStart .. | .doorHeld .. | .doorOver .. | .unscheduledOpening .. | .defrostOverrun ..
  | .stopLate .. => true
  | .doorChange _ isOpen _ kind _ => isOpen && kind == some .unscheduled
  | .excursionEnd .. | .probeFault .. | .proofReady .. | .handoffLapsed .. | .claimDecided .. | .reportReady ..
  | .scanSummary .. => false

/-- Whether a role subscribes to a notice (R174). REPORT_READY goes to its holder alone, if that port is DOCK. -/
def NoticeBody.wantedBy (b : NoticeBody) (r : Role) : Bool :=
  match b with
  | .excursionStart .. | .excursionEnd .. | .doorHeld .. | .unscheduledOpening .. | .defrostOverrun .. =>
    r == .cab || r == .dock || r == .cooling
  | .doorOver .. | .stopLate .. | .proofReady .. | .handoffLapsed .. => r == .cab
  | .doorChange .. => r == .cab || r == .cooling
  | .probeFault .. => r == .dock || r == .cooling
  | .claimDecided .. => r == .cab || r == .dock
  | .reportReady .. => r == .dock
  | .scanSummary .. => r == .cooling

/-- A notice joins its queue on a port that wants it; a full routine queue loses its oldest, and a full urgent queue
loses the new one (R175). -/
def PortState.enqueue (n : Notice) (ps : PortState) : PortState :=
  if n.body.wantedBy ps.role = false then ps
  else if n.body.urgent then
    if ps.urgent.length < 8 then { ps with urgent := ps.urgent ++ [n] } else { ps with droppedUrgent := true }
  else if ps.routine.length < 16 then { ps with routine := ps.routine ++ [n] }
  else { ps with routine := ps.routine.tail ++ [n], droppedRoutine := satAdd 16 ps.droppedRoutine 1 }

/-- A block posts a notice: it is offered to every port (R174). -/
def State.post (s : State) (b : NoticeBody) : State :=
  { s with ports := mapV (PortState.enqueue ⟨b, s.seconds⟩) s.ports }

/-- A notice offered to one port alone (R169). -/
def State.postTo (s : State) (p : Port) (b : NoticeBody) : State := s.modPort p (PortState.enqueue ⟨b, s.seconds⟩)

/-! ### Taking and answering a request (R161 to R165) -/

/-- What a request's own rule gives: the status and body of its response, and the state it leaves. -/
structure Reply where
  status : Status
  body : List Byte
  after : After
  state : State
  deriving DecidableEq, Repr

/-- A reply that leaves the state as it is. -/
def reply (status : Status) (s : State) (body : List Byte := []) : Reply :=
  { status := status, body := body, after := .nothing, state := s }

/-- A response that has been made begins to be sent if its port's transmitter is free, and its attention code is
composed at that instant (R162, R163; DESIGN CHOICE, log 2, unsafe). -/
def State.beginResponse (s : State) (p : Port) : State :=
  let ps := s.ports.get p
  match ps.request, ps.tx with
  | some r, none => s.modPort p fun ps => { ps with tx := some (.response r (attention s p)) }
  | _, _ => s

/-- The port's refusal record takes a refusal (R165). -/
def State.recordRefusal (s : State) (p : Port) (kind : Byte) (status : Status) : State :=
  if status.isRefusal then
    s.modPort p fun ps => { ps with refusal := some ⟨kind, status, s.seconds⟩, refusals := satAdd 8 ps.refusals 1 }
  else s

/-- The response to a taken request is made: the refusal record, request state ANSWERING, and the sending. `answer`
is the KIND of the response. -/
def State.respond (p : Port) (kind answer tag : Byte) (r : Reply) : State :=
  let s := r.state.recordRefusal p kind r.status
  (s.modPort p fun ps => { ps with request := some ⟨answer, r.status, tag, r.body, r.after⟩ }).beginResponse p

/-- A port that can be handed a frame: main power is up and its receiver is not in BREAK. -/
def State.hears (s : State) (p : Port) : Bool := s.phase != .off && (s.ports.get p).rx != .broken

/-- The KIND of a response: the request's KIND plus 0x80, which is stated where the sum fits a byte (free
value, log 4, safe). -/
def answerKind (kind : Byte) : Byte := if kind.toNat < 0x80 then kind + 0x80 else Config.wideKind kind

/-- A good frame with a defined KIND is handed over on port `p` (R161), judged by steps 1 and 3 of R162, and then acts
under its own rule `act`, which begins with step 4. -/
def takeRequest (p : Port) (kind tag : Byte) (act : State → Reply) (s : State) : State :=
  if s.hears p = false then s
  else if (s.ports.get p).request.isSome then s.modPort p fun ps => { ps with lost := satAdd 16 ps.lost 1 }
  else
    State.respond p kind (answerKind kind) tag <|
      match s.phase with
      | .ready => if hasRight kind (s.ports.get p).role then act s else reply .noRight s
      | _ => reply .notReady s

/-! ### The scan period in force (R17, R18) -/

/-- A bid clamped into [scan floor, 256] (R17). -/
def clampBid (g : General) (bid : Nat) : Nat := max g.scanFloor (min bid 256)

/-- The period that the settings and the bids give (R18). -/
def State.wantedPeriod (s : State) : Nat :=
  let g := s.settings.general
  match (s.ports.toList.filterMap fun ps => ps.bid.map (clampBid g)).min? with
  | some b => b
  | none => g.defaultPeriod

/-- The period in force is worked out again; when it changes, a due time that lies later than the new period allows
moves (R18). -/
def State.recomputePeriod (s : State) : State :=
  let period := s.wantedPeriod
  if period = s.scanner.period then s
  else { s with scanner := { s.scanner with
    period := period, nextDue := min s.scanner.nextDue (s.scanner.elapsed + period) } }

/-! ### The report slot (R172) -/

/-- The slot is freed if port `p` holds it. -/
def State.freeReportOf (s : State) (p : Port) : State :=
  match s.report with
  | some r => if r.holder = p then { s with report := none } else s
  | none => s

/-! ### Time (DESIGN CHOICE, log 7, unsafe) -/

/-- `n` milliseconds pass for a door: its candidate level, open-time total and stop accumulator (R38, R43, R47). -/
def Door.elapse (n : Nat) (stopIsOpen : Bool) (d : Door) : Door :=
  { d with candidate := d.candidate.map (· + n),
           openTotal := if d.isOpen then d.openTotal + BitVec.ofNat 32 n else d.openTotal,
           stopAcc := if d.isOpen && stopIsOpen then d.stopAcc + n else d.stopAcc }

/-- `n` milliseconds of silence pass at a receiver (R159). -/
def PortState.elapse (n : Nat) (ps : PortState) : PortState :=
  match ps.rx with
  | .inFrame bytes silence => { ps with rx := .inFrame bytes (silence + n) }
  | _ => ps

/-- `n` milliseconds pass. -/
def State.elapseMs (s : State) (n : Nat) : State :=
  if s.phase = .off then s
  else { s with
    doors := mapV (Door.elapse n s.currentStop.isSome) s.doors
    ports := mapV (PortState.elapse n) s.ports
    scanner := { s.scanner with scan := s.scanner.scan.map fun x => { x with age := x.age + n } } }

/-- A second passes for a door's held timer, which runs while the door is OPEN (R40). -/
def Door.second (d : Door) : Door :=
  if d.state = .opened then { d with period := d.period.map fun x => { x with held := x.held + 1 } } else d

/-- The seconds remaining of a timer, one second later. -/
def countDown (t : Option Nat) : Option Nat := t.map (· - 1)

/-- A second passes for every timer that counts elapsed seconds. While STARTING only the held timers and the
scanner's count run (section 11.4, R51). -/
def State.secondTimers (s : State) : State :=
  match s.phase with
  | .off => s
  | .starting _ => { s with doors := mapV Door.second s.doors,
                            scanner := { s.scanner with elapsed := s.scanner.elapsed + 1 } }
  | .ready => { s with
    doors := mapV Door.second s.doors
    scanner := { s.scanner with elapsed := s.scanner.elapsed + 1 }
    defrosts := mapV (fun a => { a with refill := a.refill + 1 }) s.defrosts
    stops := mapV (Option.map fun st : Stop => { st with timer := countDown st.timer }) s.stops
    handoffs := mapV (Option.map fun h : Handoff => { h with ack := countDown h.ack }) s.handoffs
    report := s.report.map fun r => { r with timer := countDown r.timer } }

/-- Whether the crystal has a supply: main power, or the backup supply that holds the retained memory (R181). -/
def State.supplied (s : State) : Bool := s.phase != .off || s.marker

/-- The rest of the second passes, and the seconds count advances (R181). -/
def State.advanceSecond (s : State) : State :=
  if s.supplied then
    let t := (s.elapseMs (1000 - s.subMs)).secondTimers
    { t with seconds := t.seconds + 1, subMs := 0 }
  else s

/-- What passes while no command waits: one millisecond (log 7). -/
def State.idle (s : State) : State :=
  if s.supplied = false then s
  else if 999 ≤ s.subMs then s.advanceSecond
  else { s.elapseMs 1 with subMs := s.subMs + 1 }

end Sys2Proof.Machine
end

