-- ==== Sys2Proof/Machine/Lots.lean ====
section
/-!
DEFINITION. The lot table (chapter 6): loading, moving, writing off and retiring a lot, and reading the table.
-/
namespace Sys2Proof.Machine

/-- The record that LOT_LOAD enters (R92). -/
def Lot.load (number : Word) (cls : ClassNo) (comp : Comp) (q : Nat) : Lot :=
  { number := number, cls := cls, comp := comp, qty := Quantities.load q, state := .stowed, joined := false,
    acct := Account.fresh, dispatched := none, returned := none, handoffs := [], openClaims := 0 }

/-- LOT_LOAD (R91, R92). -/
def actLotLoad (lot : Word) (cls compartment : Byte) (quantity : Half) (s : State) : Reply :=
  if s.route.state ≠ .loading then reply .state s
  else
    match indexIn 16 cls, indexIn 4 compartment with
    | some k, some c =>
      if lot = 0 ∨ quantity = 0 then reply .range s
      else if (s.lotNamed lot).isSome then reply .duplicate s
      else match s.freeSlot with
        | none => reply .full s
        | some i =>
          reply .ok { s with lots := setAt s.lots i (some (Lot.load lot k c quantity.toNat)) } (u8 i.val)
    | _, _ => reply .range s

/-- LOT_MOVE (R93). -/
def actLotMove (lot : Word) (compartment : Byte) (s : State) : Reply :=
  match indexIn 4 compartment with
  | none => reply .range s
  | some c =>
    if lot = 0 then reply .range s
    else match s.lotNamed lot with
      | none => reply .unknown s
      | some (i, l) =>
        if ¬ ((l.state = .stowed ∨ l.state = .onBoard) ∧ l.qty.offered = 0) then reply .state s
        else if (s.settings.comps.get c).enabled = false then reply .range s
        else reply .ok (s.modLot i fun l => { l with comp := c }) (u8 l.comp.val ++ u8 c.val)

/-- LOT_WRITE_OFF (R94, R95). -/
def actLotWriteOff (lot : Word) (quantity : Half) (s : State) : Reply :=
  if lot = 0 then reply .range s
  else match s.lotNamed lot with
    | none => reply .unknown s
    | some (i, l) =>
      if ¬ (l.state = .stowed ∨ l.state = .onBoard) then reply .state s
      else if quantity = 0 ∨ l.qty.onBoard < quantity.toNat then reply .range s
      else
        let l' := (l.move (Quantities.writeOff quantity.toNat)).judge
        reply .ok (s.modLot i fun _ => l') (u16 l'.qty.onBoard ++ u16 l'.qty.writtenOff ++ u8 l'.state.code)

/-- The span of a claim window in seconds (R97). -/
def ClassCfg.windowSecs (k : ClassCfg) : Nat := k.window * 3600

/-- A SETTLED handoff whose claim window is still running (R97). -/
def Handoff.windowRuns (k : ClassCfg) (now : Time) (h : Handoff) : Bool :=
  h.state == .settled && (match h.settleTime with
    | some t => decide (span t now ≤ k.windowSecs)
    | none => false)

/-- Frees the handoff entries of a list (R97, R122). -/
def freeHandoffs (table : Vector (Option Handoff) 128) (list : List HIndex) : Vector (Option Handoff) 128 :=
  list.foldl (fun t i => setAt t i none) table

/-- Frees the claims that satisfy `gone`; an assessor left holding one of them holds none (R152, R155). -/
def State.freeClaims (s : State) (gone : Claim → Bool) : State :=
  { s with
    claims := s.claims.filter fun c => !gone c
    assessor := s.assessor.map fun a => { a with
      claim := a.claim.filter fun n => !(s.claims.any fun c => c.number == n && gone c) } }

/-- A claim against one of a lot's handoffs (R97). -/
def Claim.ofLot (l : Lot) (c : Claim) : Bool := l.handoffs.contains c.handoff

/-- The slot is freed with its handoff records and its claims (R97). -/
def State.retire (s : State) (i : Slot) (l : Lot) : State :=
  let t := s.freeClaims (Claim.ofLot l)
  { t with lots := setAt t.lots i none, handoffs := freeHandoffs t.handoffs l.handoffs }

/-- LOT_RETIRE (R97). -/
def actLotRetire (lot : Word) (force : Byte) (s : State) : Reply :=
  match readFlag force with
  | none => reply .range s
  | some force =>
    if lot = 0 then reply .range s
    else match s.lotNamed lot with
      | none => reply .unknown s
      | some (i, l) =>
        if ¬ (s.route.state ≠ .dispatched ∧ (l.state = .depleted ∨ l.state = .returned)) then reply .state s
        else if s.claims.any fun c => c.ofLot l && c.live then reply .inUse s
        else if force = false ∧ l.handoffs.any (fun j => match s.handoffs.get j with
            | some h => h.windowRuns (s.settings.classes.get l.cls) s.seconds
            | none => false) then reply .windowOpen s
        else
          reply .ok (s.retire i l) (u8 i.val ++ u8 l.handoffs.length ++ u8 (s.claims.countP (Claim.ofLot l)))

/-- Part 0 of LOT_STATUS (R100). -/
def Lot.part0 (i : Slot) (l : Lot) : List Byte :=
  u8 i.val ++ wordBytes l.number ++ u8 l.cls.val ++ u8 l.comp.val ++ u8 l.state.code ++ flag l.joined ++ l.qty.bytes
    ++ u8 l.openClaims ++ l.acct.bytes ++ u32 (dm l.acct.dose) ++ u32 (dm l.acct.waived)

/-- Part 1 of LOT_STATUS (R100). -/
def Lot.part1 (l : Lot) : List Byte :=
  opt 33 DispatchReceipt.bytes l.dispatched ++ opt 33 ReturnReceipt.bytes l.returned

/-- An entry of part 2 of LOT_STATUS (R100). -/
def State.listedHandoff (s : State) (j : HIndex) : List Byte :=
  u8 j.val ++ (match s.handoffs.get j with
    | some h => u8 h.stop.val ++ u8 h.state.code ++ u16 h.q
    | none => [0, 0, 0, 0])

/-- LOT_STATUS (R100). -/
def actLotStatus (lot : Word) (part : Byte) (s : State) : Reply :=
  if lot = 0 ∨ 2 < part.toNat then reply .range s
  else match s.lotNamed lot with
    | none => reply .unknown s
    | some (i, l) =>
      reply .ok s <| match part.toNat with
        | 0 => l.part0 i
        | 1 => l.part1
        | _ => counted s.listedHandoff l.handoffs

/-- The occupied slots from a first slot upward, with their records (R101). -/
def State.lotsFrom (s : State) (first : Nat) : List (Slot × Lot) :=
  (List.finRange 64).filterMap fun i => if first ≤ i.val then (s.lots.get i).map fun l => (i, l) else none

/-- An entry of LOT_LIST (R101). -/
def lotEntry (x : Slot × Lot) : List Byte :=
  u8 x.1.val ++ wordBytes x.2.number ++ u8 x.2.cls.val ++ u8 x.2.comp.val ++ u8 x.2.state.code ++ u16 x.2.qty.onBoard
    ++ u16 x.2.qty.offered

/-- LOT_LIST (R101). -/
def actLotList (first : Byte) (s : State) : Reply :=
  match indexIn 64 first with
  | none => reply .range s
  | some i =>
    let all := s.lotsFrom i.val
    reply .ok s (counted lotEntry (all.take 16) ++ opt 1 (fun x : Slot × Lot => u8 x.1.val) (all.drop 16).head?)

def execLotLoad (p : Port) (tag : Byte) (lot : Word) (cls compartment : Byte) (quantity : Half) (s : State) :
    Host.Outcome State Fault Refusal :=
  .next (takeRequest p 0x20 tag (actLotLoad lot cls compartment quantity) s)

def execLotMove (p : Port) (tag : Byte) (lot : Word) (compartment : Byte) (s : State) :
    Host.Outcome State Fault Refusal :=
  .next (takeRequest p 0x21 tag (actLotMove lot compartment) s)

def execLotWriteOff (p : Port) (tag : Byte) (lot : Word) (quantity : Half) (s : State) :
    Host.Outcome State Fault Refusal :=
  .next (takeRequest p 0x22 tag (actLotWriteOff lot quantity) s)

def execLotRetire (p : Port) (tag : Byte) (lot : Word) (force : Byte) (s : State) :
    Host.Outcome State Fault Refusal :=
  .next (takeRequest p 0x23 tag (actLotRetire lot force) s)

def execLotStatus (p : Port) (tag : Byte) (lot : Word) (part : Byte) (s : State) :
    Host.Outcome State Fault Refusal :=
  .next (takeRequest p 0x24 tag (actLotStatus lot part) s)

def execLotList (p : Port) (tag : Byte) (first : Byte) (s : State) : Host.Outcome State Fault Refusal :=
  .next (takeRequest p 0x25 tag (actLotList first) s)

end Sys2Proof.Machine
end

