-- ==== Sys2Proof/Machine/Claims.lean ====
section
/-!
DEFINITION. Claims (chapter 9): lodging, the assessor and its verdict, withdrawing, fetching, clearing and listing.
-/
namespace Sys2Proof.Machine

/-! ### Lodging -/

/-- The number after a claim number: 65535 runs back to 1 (R143). -/
def nextNumber (n : Nat) : Nat := if 65535 ≤ n then 1 else n + 1

/-- The first number from `n` on that no occupied entry holds; 16 entries are passed within 17 steps (R143). -/
def freeNumber (claims : List Claim) : Nat → Nat → Nat
  | 0, n => n
  | k + 1, n => if claims.any fun c => c.number == n then freeNumber claims k (nextNumber n) else n

/-- The open claim count of the lot of a handoff changes (R99). -/
def State.modOpenClaims (s : State) (j : HIndex) (f : Nat → Nat) : State :=
  match s.handoffs.get j with
  | some h => s.modLot h.slot fun l => { l with openClaims := f l.openClaims }
  | none => s

/-! ### The assessor (R147, R148) -/

/-- The copies that an assessment holds (R148); none where the handoff, its lot or one of the copies is missing,
which no reachable state has (R125, R144). -/
def State.evidence (s : State) (c : Claim) : Option Assessment :=
  match s.handoffs.get c.handoff with
  | some h =>
    match s.lots.get h.slot with
    | some l =>
      match h.snap, l.dispatched with
      | some snap, some r =>
        let k := s.settings.classes.get l.cls
        some { claim := some c.number, start := s.seconds, discard := false, snap := snap, a := h.a, e := h.e,
               c := h.c, accepted := h.accepted, dispatchSnap := r.snap, doseLimit := k.doseLimit,
               shockLimit := k.shockLimit, unverifiedLimit := k.unverifiedLimit }
      | _, _ => none
    | none => none
  | none => none

/-- The IDLE assessor starts on the LODGED claim that comes first (R147). -/
def State.startAssessor (s : State) : State :=
  match s.assessor, s.claims.find? (fun c => c.state == .lodged) with
  | none, some c =>
    match s.evidence c with
    | some a => { s.modClaim c.number fun c => { c with state := .assessing } with assessor := some a }
    | none => s
  | _, _ => s

/-! ### The verdict (R149) -/

/-- The figures of an assessment. -/
def Assessment.figures (a : Assessment) : Figures :=
  { totalDm := dm a.snap.dose, depotDm := dm a.dispatchSnap.dose, carrierDm := dm (a.snap.dose - a.dispatchSnap.dose),
    shocks := a.snap.shocks, unverified := a.snap.unverified - a.dispatchSnap.unverified }

/-- A snapshot shows harm: DM at or above DL, or shocks at or above SL. -/
def Assessment.harm (a : Assessment) (x : Account) : Bool :=
  decide (a.doseLimit ≤ dm x.dose) || decide (a.shockLimit ≤ x.shocks)

/-- The verdict and its referral reason. -/
def Assessment.verdict (a : Assessment) : Verdict × Option Referral :=
  match a.e with
  | some .idMismatch => (.referred, some .identity)
  | some .copyMismatch => (.referred, some .copy)
  | none =>
    if a.snap.saturated = true ∨ a.unverifiedLimit < a.figures.unverified then (.referred, some .record)
    else if a.harm a.snap then
      if a.harm a.dispatchSnap then (.upheldDepot, none) else (.upheldCarrier, none)
    else (.rejected, none)

/-- The claim takes the verdict of its assessment (R150). -/
def Claim.decide (now : Time) (a : Assessment) (c : Claim) : Claim :=
  { c with state := .decided, verdict := some a.verdict.1, reason := a.verdict.2, figures := some a.figures,
           decideTime := some now, fetched := false }

/-- The verdict is applied and announced (R150). -/
def State.applyVerdict (s : State) (a : Assessment) : State :=
  match a.claim.bind s.claimNamed with
  | some c =>
    ((s.modClaim c.number (Claim.decide s.seconds a)).modOpenClaims c.handoff (· - 1)).post
      (.claimDecided c.number c.handoff c.lot a.verdict.1 a.verdict.2)
  | none => s

/-- ASSESSMENT_COMPLETION (R150). -/
def assessmentCompletion (s : State) : State :=
  match s.assessor with
  | some a =>
    if s.phase = .ready then
      let t := if a.discard then s else s.applyVerdict a
      State.startAssessor { t with assessor := none }
    else s
  | none => s

/-! ### Requests -/

/-- CLAIM_LODGE (R144, R145); the assessor may start at once (R147). -/
def actClaimLodge (index : Byte) (code : Word) (quantity : Half) (s : State) : Reply :=
  match indexIn 128 index with
  | none => reply .range s
  | some j =>
    if quantity = 0 then reply .range s
    else match s.handoffs.get j with
      | none => reply .unknown s
      | some h =>
        match h.state, h.settleTime, s.lots.get h.slot with
        | .settled, some settled, some l =>
          let k := s.settings.classes.get l.cls
          if codeMatches code h.consignee h.mask = false then reply .claimant s
          else if h.accepted < quantity.toNat then reply .range s
          else match s.claims.find? fun c => c.handoff == j && c.holds with
            | some c => reply .duplicate s (u16 c.number ++ u8 c.state.code)
            | none =>
              if k.windowSecs < span settled s.seconds then
                reply .tooLate s (timeBytes settled ++ timeBytes (settled + BitVec.ofNat 32 k.windowSecs))
              else if 16 ≤ s.claims.length then reply .full s
              else
                let n := freeNumber s.claims 17 s.nextClaim
                let c : Claim :=
                  { number := n, handoff := j, lot := l.number, claimant := code, quantity := quantity.toNat,
                    lodgeTime := s.seconds, state := .lodged, verdict := none, reason := none, figures := none,
                    decideTime := none, endTime := none, fetched := false }
                let t := { s with claims := s.claims ++ [c], nextClaim := nextNumber n }
                reply .ok (t.modOpenClaims j (· + 1)).startAssessor
                  (u16 n ++ timeBytes s.seconds ++ u8 (s.claims.countP Claim.live))
        | _, _, _ => reply .state s (u8 h.state.code)

/-- A claim is withdrawn (R151). -/
def State.withdrawClaim (s : State) (c : Claim) : State :=
  (s.modClaim c.number fun c => { c with state := .withdrawn, endTime := some s.seconds }).modOpenClaims
    c.handoff (· - 1)

/-- The assessor's discard mark is set if it works on the claim (R151). -/
def State.discardAssessment (s : State) (n : Nat) : State :=
  { s with assessor := s.assessor.map fun a => if a.claim = some n then { a with discard := true } else a }

/-- CLAIM_WITHDRAW (R151). -/
def actClaimWithdraw (number : Half) (s : State) : Reply :=
  if number = 0 then reply .range s
  else match s.claimNamed number.toNat with
    | none => reply .unknown s
    | some c =>
      match c.state with
      | .lodged => reply .ok (s.withdrawClaim c) (u8 c.state.code)
      | .assessing => reply .ok ((s.withdrawClaim c).discardAssessment c.number) (u8 c.state.code)
      | .decided | .withdrawn => reply .state s (u8 c.state.code)

/-- The live claims that come before a claim in the lodging order (R153). -/
def liveBefore (claims : List Claim) (n : Nat) : Nat := (claims.takeWhile fun c => c.number != n).countP Claim.live

/-- The figures in a response body, 17 bytes. -/
def Figures.bytes (f : Figures) : List Byte :=
  u32 f.totalDm ++ u32 f.depotDm ++ u32 f.carrierDm ++ u8 f.shocks ++ u32 f.unverified

/-- The body of CLAIM_FETCH of a DECIDED claim (R153). -/
def Claim.fetchBody (c : Claim) : List Byte :=
  u16 c.number ++ u8 c.handoff.val ++ wordBytes c.lot ++ wordBytes c.claimant ++ u16 c.quantity
    ++ timeBytes c.lodgeTime ++ timeBytes (c.decideTime.getD 0) ++ u8 ((c.verdict.map Verdict.code).getD 0)
    ++ opt 1 (fun r => u8 (Referral.code r)) c.reason
    ++ ((c.figures.map Figures.bytes).getD (List.replicate 17 0)) ++ flag c.fetched

/-- CLAIM_FETCH (R153). -/
def actClaimFetch (number : Half) (s : State) : Reply :=
  if number = 0 then reply .range s
  else match s.claimNamed number.toNat with
    | none => reply .unknown s
    | some c =>
      match c.state with
      | .decided => reply .ok (s.modClaim c.number fun c => { c with fetched := true }) c.fetchBody
      | .lodged | .assessing => reply .pending s (u8 c.state.code ++ u8 (liveBefore s.claims c.number))
      | .withdrawn => reply .state s (u8 c.state.code ++ timeBytes (c.endTime.getD 0))

/-- CLAIM_CLEAR (R154). -/
def actClaimClear (number : Half) (s : State) : Reply :=
  if number = 0 then reply .range s
  else match s.claimNamed number.toNat with
    | none => reply .unknown s
    | some c =>
      if c.live then reply .state s (u8 c.state.code)
      else reply .ok (s.freeClaims fun x => x.number == c.number)
        (u8 c.state.code ++ opt 2 (fun v => u8 (Verdict.code v) ++ flag c.fetched) c.verdict)

/-- An entry of CLAIM_LIST (R155). -/
def Claim.entry (c : Claim) : List Byte :=
  u16 c.number ++ u8 c.handoff.val ++ wordBytes c.lot ++ u8 c.state.code
    ++ opt 1 (fun v => u8 (Verdict.code v)) c.verdict ++ flag c.fetched

/-- CLAIM_LIST (R155). -/
def actClaimList (s : State) : Reply :=
  reply .ok s (counted Claim.entry s.claims ++ u8 (if s.assessor.isSome then 1 else 0)
    ++ opt 2 u16 (s.assessor.bind Assessment.claim))

/-- A claim that was ASSESSING at a start is LODGED again (R156). -/
def Claim.atStart (c : Claim) : Claim := if c.state = .assessing then { c with state := .lodged } else c

def execClaimLodge (p : Port) (tag : Byte) (index : Byte) (code : Word) (quantity : Half) (s : State) :
    Host.Outcome State Fault Refusal :=
  .next (takeRequest p 0x38 tag (actClaimLodge index code quantity) s)

def execClaimWithdraw (p : Port) (tag : Byte) (number : Half) (s : State) : Host.Outcome State Fault Refusal :=
  .next (takeRequest p 0x39 tag (actClaimWithdraw number) s)

def execClaimFetch (p : Port) (tag : Byte) (number : Half) (s : State) : Host.Outcome State Fault Refusal :=
  .next (takeRequest p 0x3A tag (actClaimFetch number) s)

def execClaimClear (p : Port) (tag : Byte) (number : Half) (s : State) : Host.Outcome State Fault Refusal :=
  .next (takeRequest p 0x3B tag (actClaimClear number) s)

def execClaimList (p : Port) (tag : Byte) (s : State) : Host.Outcome State Fault Refusal :=
  .next (takeRequest p 0x3C tag actClaimList s)

def execAssessmentCompletion (s : State) : Host.Outcome State Fault Refusal := .next (assessmentCompletion s)

end Sys2Proof.Machine
end

