-- ==== Sys2Proof/Machine/Defrost.lean ====
section
/-!
DEFINITION. The Defrost Allowance (chapter 4): the pool and its refill, asking for a defrost and ending it, and the
waiver decision at each step.
-/
namespace Sys2Proof.Machine

/-- A handoff is OFFERED for a lot whose record names compartment `c` (R55, check 6). -/
def State.offeredFrom (s : State) (c : Comp) : Bool :=
  s.handoffs.toList.any fun h => match h with
    | some h => h.state == .offered && (match s.lots.get h.slot with
        | some l => l.comp == c
        | none => false)
    | none => false

/-- The reason of the first of the six checks that fails; none where all hold (R55). -/
def State.askFails (s : State) (c : Comp) : Option DeferReason :=
  let cfg := s.settings.comps.get c
  let a := s.defrosts.get c
  if cfg.enabled = false then some .disabled
  else if a.state ≠ .idle then some .defrosting
  else if (s.doors.get c).state ≠ .closed then some .door
  else if (s.watches.get c).out then some .watch
  else if a.pool < cfg.minGrant then some .pool
  else if s.offeredFrom c then some .offer
  else none

/-- The defrost is granted (R56, R32). -/
def State.grantDefrost (s : State) (c : Comp) : State :=
  (s.modDefrost c fun a => { a with
    state := .active,
    record := some { grant := s.seconds, poolAtGrant := a.pool, waivedSecs := 0, waivedSteps := 0,
                     chargedSteps := 0, overrunAt := none },
    lastAsk := some ⟨s.seconds, none⟩ }).modWatch c fun w => { w with heldHits := 0 }

/-- DEFROST_ASK (R55, R56). -/
def actDefrostAsk (compartment : Byte) (s : State) : Reply :=
  match indexIn 4 compartment with
  | none => reply .range s
  | some c =>
    let a := s.defrosts.get c
    match s.askFails c with
    | some r =>
      reply .deferred (s.modDefrost c fun a => { a with lastAsk := some ⟨s.seconds, some r⟩ })
        (u8 r.code ++ u16 a.pool ++ u8 a.state.code)
    | none => reply .ok (s.grantDefrost c) (u16 a.pool ++ u16 (s.settings.comps.get c).minGrant)

/-- DEFROST_END (R58). -/
def actDefrostEnd (compartment : Byte) (s : State) : Reply :=
  match indexIn 4 compartment with
  | none => reply .range s
  | some c =>
    let a := s.defrosts.get c
    if a.state = .idle then reply .state s
    else reply .ok (s.modDefrost c fun a => { a with state := .idle })
      (u8 a.state.code ++ ((a.record.map DefrostRecord.bytes).getD (List.replicate 19 0)))

/-- The body of DEFROST_STATUS (R63). The seconds until the refill timer expires, up to 86400, take four bytes (DESIGN
CHOICE, log 6, unsafe). -/
def defrostStatusBody (c : Comp) (s : State) : List Byte :=
  let cfg := s.settings.comps.get c
  let a := s.defrosts.get c
  u16 cfg.poolMax ++ u16 cfg.refillAmount ++ u32 cfg.refillInterval ++ u16 cfg.minGrant ++ u16 a.pool
    ++ u32 (cfg.refillInterval - a.refill) ++ u8 a.state.code ++ opt 19 DefrostRecord.bytes a.record
    ++ opt 7 Ask.bytes a.lastAsk

/-- DEFROST_STATUS (R63). -/
def actDefrostStatus (compartment : Byte) (s : State) : Reply :=
  match indexIn 4 compartment with
  | none => reply .range s
  | some c => reply .ok s (defrostStatusBody c s)

/-- The pool is refilled and the timer restarts (R54). -/
def Allowance.refillNow (cfg : CompCfg) (a : Allowance) : Allowance :=
  { a with pool := min (a.pool + cfg.refillAmount) cfg.poolMax, refill := 0 }

/-- REFILL_EXPIRY (R54); the timer does not expire while STARTING (R64). -/
def refillExpiry (c : Comp) (s : State) : State :=
  let cfg := s.settings.comps.get c
  if s.phase = .ready ∧ cfg.refillInterval ≤ (s.defrosts.get c).refill then
    s.modDefrost c (Allowance.refillNow cfg)
  else s

/-- An accepted COMPARTMENT entry acts on the allowance: the clamp of the pool, and a refill whose new interval has
already passed (R62). -/
def State.defrostSettings (s : State) (c : Comp) : State :=
  let cfg := s.settings.comps.get c
  s.modDefrost c fun a =>
    let b := { a with pool := min a.pool cfg.poolMax }
    if cfg.refillInterval ≤ b.refill then b.refillNow cfg else b

/-- The outcome of a step of `d` seconds with `o` door-open seconds: whether it is waived, and the allowance after
(R59, R60). `time` is the scan start time of the step's reading. -/
def Allowance.decide (closed : Bool) (d o : Nat) (time : Time) (a : Allowance) : Bool × Allowance :=
  let charge (r : DefrostRecord) : DefrostRecord := { r with chargedSteps := satAdd 16 r.chargedSteps 1 }
  match a.state with
  | .idle => (false, a)
  | .overrun => (false, { a with record := a.record.map charge })
  | .active =>
    if o = 0 ∧ closed = true ∧ d ≤ a.pool then
      (true, { a with pool := a.pool - d, record := a.record.map fun r =>
        { r with waivedSecs := satAdd 32 r.waivedSecs d, waivedSteps := satAdd 16 r.waivedSteps 1 } })
    else if 0 < o ∨ closed = false then (false, { a with record := a.record.map charge })
    else (false, { a with pool := 0, state := .overrun,
                          record := a.record.map fun r => { charge r with overrunAt := some time } })

/-- The Defrost Allowance decides a step of reading `r` (R59); the entry into OVERRUN is announced (R60). -/
def State.decideStep (s : State) (r : Reading) (d o : Nat) : Bool × State :=
  let a := s.defrosts.get r.comp
  let x := a.decide ((s.doors.get r.comp).state == .closed) d o r.time
  let t := s.modDefrost r.comp fun _ => x.2
  match a.record with
  | some rec =>
    if a.state = .active ∧ x.2.state = .overrun then
      (x.1, t.post (.defrostOverrun r.comp r.time d a.pool rec.grant rec.waivedSecs))
    else (x.1, t)
  | none => (x.1, t)

def execDefrostStatus (p : Port) (tag : Byte) (compartment : Byte) (s : State) : Host.Outcome State Fault Refusal :=
  .next (takeRequest p 0x16 tag (actDefrostStatus compartment) s)

def execDefrostAsk (p : Port) (tag : Byte) (compartment : Byte) (s : State) : Host.Outcome State Fault Refusal :=
  .next (takeRequest p 0x17 tag (actDefrostAsk compartment) s)

def execDefrostEnd (p : Port) (tag : Byte) (compartment : Byte) (s : State) : Host.Outcome State Fault Refusal :=
  .next (takeRequest p 0x18 tag (actDefrostEnd compartment) s)

def execRefillExpiry (c : Comp) (s : State) : Host.Outcome State Fault Refusal := .next (refillExpiry c s)

end Sys2Proof.Machine
end

