-- ==== Sys2Proof/Machine/Doors.lean ====
section
/-!
DEFINITION. The Door Monitor (chapter 3): debounce and door state, opening kinds, the door latch and its rearm, open
time, and door seconds at a stop.
-/
namespace Sys2Proof.Machine

/-- The kind of an opening accepted now (R41). -/
def State.openingKind (s : State) : OpeningKind :=
  match s.route.state with
  | .dispatched => if s.route.openStop.isSome then .scheduled else .unscheduled
  | _ => .depot

/-- An UNSCHEDULED opening of door `d` is charged to the lots accounting in its compartment and announced (R42). -/
def State.chargeOpening (s : State) (d : Comp) : State :=
  let n := s.countLots (Lot.accountingIn d)
  (s.mapLots fun l =>
    if l.accountingIn d then { l with acct := { l.acct with openings := satAdd 8 l.acct.openings 1 } } else l).post
    (.unscheduledOpening d s.seconds n)

/-- The door latch takes a level, and DOOR_CHANGE is posted (R44, R45). -/
def State.takeLatch (s : State) (d : Comp) (isOpen : Bool) (kind : Option OpeningKind) (cause : Cause) : State :=
  (s.modDoor d fun x => { x with latch := some ⟨isOpen, s.seconds, kind, cause, 0⟩ }).post
    (.doorChange d isOpen s.seconds kind cause)

/-- The door latch at an accepted change (R44). -/
def State.latchChange (s : State) (d : Comp) (isOpen : Bool) (kind : Option OpeningKind) : State :=
  match (s.doors.get d).latch with
  | none => s.takeLatch d isOpen kind .change
  | some l => s.modDoor d fun x => { x with latch := some { l with unreported := satAdd 8 l.unreported 1 } }

/-- The present level of door `d` is accepted (R39). The first level of an UNSETTLED door sets the last change time
(DESIGN CHOICE, log 9, unsafe). -/
def State.acceptLevel (s : State) (d : Comp) : State :=
  let door := s.doors.get d
  let now := s.seconds
  match door.state with
  | .unsettled =>
    let isOpen := door.inputOpen (s.settings.doors.get d)
    s.modDoor d fun x => { x with
      candidate := none, lastChange := some now,
      state := if isOpen then .opened else .closed,
      period := if isOpen then some ⟨now, none, 0⟩ else none }
  | .closed =>
    let kind := s.openingKind
    let t := if kind = .unscheduled then s.chargeOpening d else s
    (t.modDoor d fun x => { x with
      candidate := none, lastChange := some now, state := .opened, period := some ⟨now, some kind, 0⟩ }).latchChange
      d true (some kind)
  | .opened | .held =>
    (s.modDoor d fun x => { x with
      candidate := none, lastChange := some now, state := .closed, period := none }).latchChange d false none

/-- A level that differs from the accepted one has been present for the debounce time (R38). -/
def State.changeIsDue (s : State) (d : Comp) : Bool :=
  let door := s.doors.get d
  let cfg := s.settings.doors.get d
  door.differs cfg && (match door.candidate with
    | some t => decide (cfg.debounce ≤ t)
    | none => false)

/-- The held timer of an OPEN door has reached the held limit (R40). -/
def State.heldIsDue (s : State) (d : Comp) : Bool :=
  let door := s.doors.get d
  door.state == .opened && (match door.period with
    | some x => decide ((s.settings.doors.get d).heldLimit ≤ x.held)
    | none => false)

/-- The door goes from OPEN to HELD, and DOOR_HELD is posted (R40). -/
def State.enterHeld (s : State) (d : Comp) : State :=
  let t := s.modDoor d fun x => { x with state := .held }
  match (s.doors.get d).period with
  | some x => t.post (.doorHeld d x.start x.kind)
  | none => t

/-- The sum of a stop's door seconds (R48). -/
def Stop.doorSum (st : Stop) : Nat := st.doorSecs.toList.sum

/-- A stop accumulator has reached 1000: one door second for the stop, and the door budget (R47, R48). -/
def State.addDoorSecond (n : StopNo) (d : Comp) (s : State) : State :=
  let t := (s.modDoor d fun x => { x with stopAcc := x.stopAcc - 1000 }).modStop n fun st =>
    { st with doorSecs := modAt st.doorSecs d fun k => satAdd 16 k 1 }
  match t.stops.get n with
  | some st =>
    if 0 < st.budget ∧ st.budget < st.doorSum ∧ st.doorOver = false then
      (t.modStop n fun st => { st with doorOver := true }).post (.doorOver n st.budget st.doorSum)
    else t
  | none => t

/-- Every whole second still in the stop accumulators is counted (R47). -/
def State.drainStop (n : StopNo) (s : State) : State :=
  (List.finRange 4).foldl (fun t d => Nat.iterate (State.addDoorSecond n d) ((t.doors.get d).stopAcc / 1000) t) s

/-- An accepted DOOR entry acts on its door: polarity, debounce time, held limit (R38, R40, R50), in that order
(DESIGN CHOICE, log 10, unsafe). -/
def State.doorSettings (s : State) (d : Comp) (old : DoorCfg) : State :=
  let cfg := s.settings.doors.get d
  if cfg.polarity ≠ old.polarity then
    s.modDoor d fun x => { x with state := .unsettled, candidate := some 0, period := none }
  else
    let t := if s.changeIsDue d then s.acceptLevel d else s
    if t.heldIsDue d then t.enterHeld d else t

/-- DOOR_INPUT_LEVEL: a level begins, or the candidate is cancelled (R38). -/
def doorInputLevel (d : Comp) (high : Bool) (s : State) : State :=
  if (s.doors.get d).high = high then s
  else s.modDoor d fun x =>
    let y := { x with high := high }
    if s.phase = .off then y
    else { y with candidate := if y.differs (s.settings.doors.get d) then some 0 else none }

/-- ACCEPTED_CHANGE (R38, R39). -/
def acceptedChange (d : Comp) (s : State) : State :=
  if s.phase ≠ .off ∧ s.changeIsDue d then s.acceptLevel d else s

/-- HELD_LIMIT_REACHED (R40); no timer expires while STARTING (section 11.4). -/
def heldLimitReached (d : Comp) (s : State) : State :=
  if s.phase = .ready ∧ s.heldIsDue d then s.enterHeld d else s

/-- STOP_DOOR_SECOND (R47). -/
def stopDoorSecond (d : Comp) (s : State) : State :=
  match s.currentStop with
  | some (n, _) => if s.phase ≠ .off ∧ 1000 ≤ (s.doors.get d).stopAcc then s.addDoorSecond n d else s
  | none => s

/-- The body of DOOR_STATUS (R49). -/
def doorStatusBody (d : Comp) (s : State) : List Byte :=
  let door := s.doors.get d
  (s.settings.doors.get d).bytes ++ u8 door.state.code ++ opt 4 timeBytes door.lastChange
    ++ opt 8 (fun x : OpenPeriod =>
        timeBytes x.start ++ opt 1 (fun k => u8 (OpeningKind.code k)) x.kind ++ u16 x.held) door.period
    ++ DoorLatch.bytes door.latch ++ wordBytes door.openTotal
    ++ opt 6 (fun x : StopNo × Stop => u16 (x.2.doorSecs.get d) ++ u32 x.2.doorSum) s.currentStop

/-- DOOR_STATUS (R49). -/
def actDoorStatus (door : Byte) (s : State) : Reply :=
  match indexIn 4 door with
  | none => reply .range s
  | some d => reply .ok s (doorStatusBody d s)

/-- The latch after a rearm: CLEAR, or taken again at once if the door's level differs from the latched one (R45). -/
def State.rearm (s : State) (d : Comp) : State :=
  let door := s.doors.get d
  let t := s.modDoor d fun x => { x with latch := none }
  match door.latch with
  | none => t
  | some l =>
    if door.state ≠ .unsettled ∧ door.isOpen ≠ l.isOpen then
      t.takeLatch d door.isOpen (if door.isOpen then door.period.bind fun x => x.kind else none) .rearm
    else t

/-- DOOR_REARM (R45). -/
def actDoorRearm (door : Byte) (s : State) : Reply :=
  match indexIn 4 door with
  | none => reply .range s
  | some d =>
    let t := s.rearm d
    reply .ok t (DoorLatch.bytes (s.doors.get d).latch ++ DoorLatch.bytes (t.doors.get d).latch)

def execDoorStatus (p : Port) (tag : Byte) (door : Byte) (s : State) : Host.Outcome State Fault Refusal :=
  .next (takeRequest p 0x14 tag (actDoorStatus door) s)

def execDoorRearm (p : Port) (tag : Byte) (door : Byte) (s : State) : Host.Outcome State Fault Refusal :=
  .next (takeRequest p 0x15 tag (actDoorRearm door) s)

def execDoorInputLevel (d : Comp) (high : Bool) (s : State) : Host.Outcome State Fault Refusal :=
  .next (doorInputLevel d high s)

def execAcceptedChange (d : Comp) (s : State) : Host.Outcome State Fault Refusal := .next (acceptedChange d s)

def execHeldLimitReached (d : Comp) (s : State) : Host.Outcome State Fault Refusal := .next (heldLimitReached d s)

def execStopDoorSecond (d : Comp) (s : State) : Host.Outcome State Fault Refusal := .next (stopDoorSecond d s)

end Sys2Proof.Machine
end

