-- ==== Sys2Proof/Machine/Handoffs.lean ====
section
/-!
DEFINITION. Handoff and delivery proof (chapter 8): the offer, the consignee's answer, the proof record and its copy,
withdrawal, the ack timer, and how a close or a start ends what still waits.
-/
namespace Sys2Proof.Machine

/-- An OFFERED handoff ends as LAPSED or WITHDRAWN: its end time is set, its ack timer stops, and its cartons go back
on board (R124, R127, R136). -/
def State.endOffer (s : State) (j : HIndex) (h : Handoff) (last : HandoffState) : State :=
  (s.modHandoff j fun h => { h with state := last, endTime := some s.seconds, ack := none }).modLot h.slot
    (Lot.move (Quantities.takeBack h.q))

/-- A PROOF_READY handoff becomes SETTLED; `copied` sets C (R124, R127, R134). -/
def State.settle (s : State) (j : HIndex) (copied : Bool) : State :=
  s.modHandoff j fun h => { h with state := .settled, settleTime := some s.seconds, ack := none, c := h.c || copied }

/-- A handoff that still waits is resolved by a close or a start: OFFERED lapses, PROOF_READY settles with C clear
(R114, R139). -/
def State.resolve (s : State) (j : HIndex) : State :=
  match s.handoffs.get j with
  | some h =>
    match h.state with
    | .offered => s.endOffer j h .lapsed
    | .proofReady => s.settle j false
    | _ => s
  | none => s

/-- Every handoff that still waits is resolved (R139). -/
def State.resolveAll (s : State) : State := (List.finRange 128).foldl State.resolve s

/-- The record that an accepted offer places (R123, R126). -/
def newHandoff (s : State) (i : Slot) (l : Lot) (n : StopNo) (st : Stop) (q : Nat) : Handoff :=
  { slot := i, route := s.route.number.getD 0, stop := n, consignee := st.consignee, mask := st.mask, q := q,
    accepted := 0, refused := 0, code := none, cond := none,
    unplanned := !(st.planned.any fun e => e.1 == l.number), a := false, e := none, c := false, snap := none,
    offerTime := s.seconds, acceptTime := none, settleTime := none, endTime := none, proof := none,
    ack := some s.settings.general.handoffWindow, state := .offered }

/-- HANDOFF_OFFER (R125, R126). -/
def actHandoffOffer (lot : Word) (quantity : Half) (s : State) : Reply :=
  match s.currentStop with
  | none => reply .state s
  | some (n, st) =>
    if s.route.state ≠ .dispatched then reply .state s
    else if lot = 0 ∨ quantity = 0 then reply .range s
    else match s.lotNamed lot with
      | none => reply .unknown s
      | some (i, l) =>
        if l.state ≠ .onBoard ∨ l.qty.onBoard < quantity.toNat then reply .range s
        else match s.freeIndex with
          | none => reply .full s
          | some j =>
            if 16 ≤ l.handoffs.length then reply .full s
            else
              let h := newHandoff s i l n st quantity.toNat
              let l' := { l.move (Quantities.offer quantity.toNat) with handoffs := l.handoffs ++ [j] }
              let t := { s with handoffs := setAt s.handoffs j (some h), lots := setAt s.lots i (some l') }
              reply .ok (t.modStop n fun st => { st with offers := st.offers ++ [j] })
                (u8 j.val ++ flag h.unplanned ++ u16 s.settings.general.handoffWindow ++ u16 l'.qty.onBoard)

/-- GOOD or NOTED (R128, R182). -/
def readCondition (b : Byte) : Option Condition :=
  if b = 0 then some .good else if b = 1 then some .noted else none

/-- A doubt raised about the handoff: E keeps its first reason (R135). -/
def Handoff.doubt (r : EReason) (h : Handoff) : Handoff := { h with e := some (h.e.getD r) }

/-- The proof record formed at the accept (R132, R42). -/
def makeProof (j : HIndex) (h : Handoff) (l : Lot) (code : Word) (a : Nat) (cond : Condition) (now : Time) : Proof :=
  let before := match l.dispatched with
    | some r => r.snap.dose
    | none => 0
  { index := j, route := h.route, stop := h.stop, lot := l.number, cls := l.cls, accepted := a, refused := h.q - a,
    code := code, acceptTime := now, dm := dm16 (dm l.acct.dose), carrierDm := dm16 (dm (l.acct.dose - before)),
    shocks := l.acct.shocks, excursions := l.acct.excursions, openings := l.acct.openings,
    unverified := l.acct.unverified, peak := l.acct.peak, cond := cond, unplanned := h.unplanned, a := true, e := h.e }

/-- The accept of a whole refusal (R130). -/
def State.refuseOffer (s : State) (j : HIndex) (h : Handoff) (code : Word) (cond : Condition) : State :=
  (s.modHandoff j fun h => { h with
    a := true, code := some code, cond := some cond, acceptTime := some s.seconds, refused := h.q, ack := none,
    state := .refused }).modLot h.slot (Lot.move (Quantities.takeBack h.q))

/-- The accept of `a` cartons: quantities, snapshot, proof record, ack timer, state and notice (R131). -/
def State.acceptOffer (s : State) (j : HIndex) (h : Handoff) (l : Lot) (code : Word) (a : Nat) (cond : Condition) :
    State :=
  let proof := makeProof j h l code a cond s.seconds
  let check := crc16 proof.bytes
  let t := s.modHandoff j fun h => { h with
    a := true, code := some code, cond := some cond, acceptTime := some s.seconds, accepted := a, refused := h.q - a,
    snap := some l.acct, proof := some (proof, check), ack := some s.settings.general.handoffWindow,
    state := .proofReady }
  (t.modLot h.slot fun l => (l.move (Quantities.answer h.q a)).judge).post (.proofReady j l.number check)

/-- The cartons on board of the lot in a slot. -/
def State.onBoardIn (s : State) (i : Slot) : Nat := ((s.lots.get i).map fun l => l.qty.onBoard).getD 0

/-- HANDOFF_ACCEPT (R128 to R131). -/
def actHandoffAccept (index : Byte) (code : Word) (accepted : Half) (condition : Byte) (s : State) : Reply :=
  match indexIn 128 index, readCondition condition with
  | some j, some cond =>
    match s.handoffs.get j with
    | none => reply .unknown s
    | some h =>
      if h.state ≠ .offered then reply .state s (u8 h.state.code)
      else if h.q < accepted.toNat then reply .range s
      else if codeMatches code h.consignee h.mask = false then
        reply .ok (s.modHandoff j (Handoff.doubt .idMismatch)) (u8 0 ++ wordBytes code)
      else if accepted = 0 then
        let t := s.refuseOffer j h code cond
        reply .ok t (u8 1 ++ u16 (t.onBoardIn h.slot))
      else match s.lots.get h.slot with
        | none => reply .unknown s
        | some l =>
          let proof := makeProof j h l code accepted.toNat cond s.seconds
          reply .ok (s.acceptOffer j h l code accepted.toNat cond)
            (u8 2 ++ proof.bytes ++ halfBytes (crc16 proof.bytes))
  | _, _ => reply .range s

/-- HANDOFF_COPIED (R134). -/
def actHandoffCopied (index : Byte) (value : Half) (s : State) : Reply :=
  match indexIn 128 index with
  | none => reply .range s
  | some j =>
    match s.handoffs.get j with
    | none => reply .unknown s
    | some h =>
      if h.state ≠ .proofReady then reply .state s (u8 h.state.code)
      else
        let check := (h.proof.map (·.2)).getD 0
        if value = check then reply .ok (s.settle j true) (u8 0)
        else reply .ok (s.modHandoff j (Handoff.doubt .copyMismatch)) (u8 1 ++ halfBytes value ++ halfBytes check)

/-- HANDOFF_WITHDRAW (R136). -/
def actHandoffWithdraw (index : Byte) (s : State) : Reply :=
  match indexIn 128 index with
  | none => reply .range s
  | some j =>
    match s.handoffs.get j with
    | none => reply .unknown s
    | some h =>
      match h.state with
      | .offered =>
        let t := s.endOffer j h .withdrawn
        reply .ok t (u16 (t.onBoardIn h.slot))
      | .proofReady | .settled => reply .tooLate s
      | .lapsed | .withdrawn | .refused => reply .state s

/-- ACK_TIMER_EXPIRY (R127). -/
def ackTimerExpiry (j : HIndex) (s : State) : State :=
  match s.handoffs.get j with
  | some h =>
    if s.phase = .ready ∧ h.ack = some 0 then
      match h.state with
      | .offered =>
        let lot := ((s.lots.get h.slot).map Lot.number).getD 0
        (s.endOffer j h .lapsed).post (.handoffLapsed j lot h.stop h.q)
      | .proofReady => s.settle j false
      | _ => s
    else s
  | none => s

/-- The body of HANDOFF_STATUS (R138). The ack timer and the proof record, which R123 and R138 both list, are sent once,
at their places in R138; E is a presence flag and its reason (DESIGN CHOICE, log 6, unsafe). -/
def handoffStatusBody (j : HIndex) (h : Handoff) (s : State) : List Byte :=
  u8 j.val ++ u8 h.slot.val ++ halfBytes h.route ++ u8 h.stop.val ++ wordBytes h.consignee ++ wordBytes h.mask
    ++ u16 h.q ++ u16 h.accepted ++ u16 h.refused ++ opt 4 wordBytes h.code
    ++ opt 1 (fun c => u8 (Condition.code c)) h.cond ++ flag h.unplanned ++ flag h.a
    ++ opt 1 (fun r => u8 (EReason.code r)) h.e ++ flag h.c ++ opt 27 Account.bytes h.snap ++ timeBytes h.offerTime
    ++ opt 4 timeBytes h.acceptTime ++ opt 4 timeBytes h.settleTime ++ opt 4 timeBytes h.endTime ++ u8 h.state.code
    ++ wordBytes (((s.lots.get h.slot).map Lot.number).getD 0) ++ opt 2 u16 h.ack
    ++ opt 37 (fun x : Proof × Half => x.1.bytes ++ halfBytes x.2) h.proof

/-- HANDOFF_STATUS (R138). -/
def actHandoffStatus (index : Byte) (s : State) : Reply :=
  match indexIn 128 index with
  | none => reply .range s
  | some j =>
    match s.handoffs.get j with
    | none => reply .unknown s
    | some h => reply .ok s (handoffStatusBody j h s)

def execHandoffOffer (p : Port) (tag : Byte) (lot : Word) (quantity : Half) (s : State) :
    Host.Outcome State Fault Refusal :=
  .next (takeRequest p 0x30 tag (actHandoffOffer lot quantity) s)

def execHandoffAccept (p : Port) (tag : Byte) (index : Byte) (code : Word) (accepted : Half) (condition : Byte)
    (s : State) : Host.Outcome State Fault Refusal :=
  .next (takeRequest p 0x31 tag (actHandoffAccept index code accepted condition) s)

def execHandoffCopied (p : Port) (tag : Byte) (index : Byte) (value : Half) (s : State) :
    Host.Outcome State Fault Refusal :=
  .next (takeRequest p 0x32 tag (actHandoffCopied index value) s)

def execHandoffWithdraw (p : Port) (tag : Byte) (index : Byte) (s : State) : Host.Outcome State Fault Refusal :=
  .next (takeRequest p 0x33 tag (actHandoffWithdraw index) s)

def execHandoffStatus (p : Port) (tag : Byte) (index : Byte) (s : State) : Host.Outcome State Fault Refusal :=
  .next (takeRequest p 0x34 tag (actHandoffStatus index) s)

def execAckTimerExpiry (j : HIndex) (s : State) : Host.Outcome State Fault Refusal := .next (ackTimerExpiry j s)

end Sys2Proof.Machine
end

