-- ==== Sys2Proof/Machine/Ports.lean ====
section
/-!
DEFINITION. The requests about the port they arrive on: PORT_STATUS (R167, R176), COUNTERS_CLEAR (R166),
NOTICE_ENABLE (R176) and SCAN_BID (R17).
-/
namespace Sys2Proof.Machine

/-- Whether an accepted change of role or baud is still waiting to take effect (R158, R167; DESIGN CHOICE,
log 12, unsafe). -/
def PortState.changeWaits (ps : PortState) : Bool := ps.changes.any fun c => c.role != ps.role || c.baud != ps.baud

/-- The slot as PORT_STATUS reports it to its holder: state, lot number, seconds left of the discard timer. -/
def Report.held (r : Report) : List Byte :=
  u8 (if r.timer.isSome then 2 else 1) ++ wordBytes r.lot ++ opt 2 u16 r.timer

/-- The body of PORT_STATUS (R167, R176). Whether the port holds the report slot is the presence flag of the slot's part
(DESIGN CHOICE, log 6, unsafe). -/
def portStatusBody (p : Port) (s : State) : List Byte :=
  let ps := s.ports.get p
  u8 p.val ++ u8 ps.role.code ++ u8 ps.baud.code ++ flag ps.changeWaits
    ++ u16 ps.good ++ u16 ps.errored ++ u16 ps.lost ++ ps.refusalBytes
    ++ opt 4 (fun b => u16 b ++ u16 (clampBid s.settings.general b)) ps.bid ++ u16 s.scanner.period
    ++ opt 8 Report.held (s.report.filter fun r => r.holder == p)
    ++ flag ps.sending ++ u8 ps.urgent.length ++ u8 ps.routine.length ++ u16 ps.droppedRoutine
    ++ flag ps.droppedUrgent

/-- PORT_STATUS: the report, after which the dropped urgent flag is cleared (R167, R176). -/
def actPortStatus (p : Port) (s : State) : Reply :=
  { status := .ok, body := portStatusBody p s, after := .nothing,
    state := s.modPort p fun ps => { ps with droppedUrgent := false } }

/-- COUNTERS_CLEAR (R166); the dropped routine count becomes 0 too (R176). -/
def actCountersClear (p : Port) (s : State) : Reply :=
  let ps := s.ports.get p
  { status := .ok, body := u16 ps.good ++ u16 ps.errored ++ u16 ps.lost ++ ps.refusalBytes, after := .nothing,
    state := s.modPort p fun ps =>
      { ps with good := 0, errored := 0, lost := 0, refusal := none, refusals := 0, droppedRoutine := 0 } }

/-- NOTICE_ENABLE (R176). -/
def actNoticeEnable (p : Port) (value : Byte) (s : State) : Reply :=
  match readFlag value with
  | none => reply .range s
  | some on =>
    let ps := s.ports.get p
    { status := .ok, body := flag ps.sending ++ u8 ps.urgent.length ++ u8 ps.routine.length, after := .nothing,
      state := s.modPort p fun ps => { ps with sending := on } }

/-- SCAN_BID: 0 withdraws the port's bid, any other value is the port's bid; the period in force is worked out again
(R17, R18). -/
def actScanBid (p : Port) (seconds : Half) (s : State) : Reply :=
  let bid := if seconds = 0 then none else some seconds.toNat
  let t := (s.modPort p fun ps => { ps with bid := bid }).recomputePeriod
  { status := .ok, body := opt 2 (fun b => u16 (clampBid s.settings.general b)) bid ++ u16 t.scanner.period,
    after := .nothing, state := t }

def execPortStatus (p : Port) (tag : Byte) (s : State) : Host.Outcome State Fault Refusal :=
  .next (takeRequest p 0x01 tag (actPortStatus p) s)

def execCountersClear (p : Port) (tag : Byte) (s : State) : Host.Outcome State Fault Refusal :=
  .next (takeRequest p 0x02 tag (actCountersClear p) s)

def execNoticeEnable (p : Port) (tag : Byte) (value : Byte) (s : State) : Host.Outcome State Fault Refusal :=
  .next (takeRequest p 0x03 tag (actNoticeEnable p value) s)

def execScanBid (p : Port) (tag : Byte) (seconds : Half) (s : State) : Host.Outcome State Fault Refusal :=
  .next (takeRequest p 0x04 tag (actScanBid p seconds) s)

end Sys2Proof.Machine
end

