-- ==== Sys2Proof/Machine/Reports.lean ====
section
/-!
DEFINITION. The report slot (section 10.6): REPORT_LOT, the completion of composition, and the discard timer.
-/
namespace Sys2Proof.Machine

/-- The slot latches a lot: a copy of its record and its handoff records at one instant (R169). -/
def State.latchReport (s : State) (p : Port) (i : Slot) (l : Lot) : Report :=
  { holder := p, lot := l.number, time := s.seconds, slot := i, copy := l,
    handoffs := l.handoffs.filterMap fun j => (s.handoffs.get j).map fun h => (j, h), timer := none }

/-- REPORT_LOT (R168 to R170). -/
def actReportLot (p : Port) (lot : Word) (page : Byte) (s : State) : Reply :=
  if lot = 0 then reply .range s
  else match s.report with
    | some r =>
      if r.holder = p ∧ r.lot = lot then
        match r.timer with
        | none => reply .pending s (u8 r.pages)
        | some _ =>
          if r.pages ≤ page.toNat then reply .range s
          else if page.toNat = r.pages - 1 then reply .ok { s with report := none } (r.page page.toNat)
          else reply .ok s (r.page page.toNat)
      else reply .busy s (u8 (if r.timer.isSome then 2 else 1))
    | none =>
      match s.lotNamed lot with
      | none => reply .unknown s
      | some (i, l) =>
        let r := s.latchReport p i l
        reply .pending { s with report := some r } (u8 r.pages)

/-- COMPOSITION_COMPLETION: a COMPOSING slot becomes READY, the discard timer starts, and REPORT_READY goes to the
holder (R169). -/
def compositionCompletion (s : State) : State :=
  match s.report with
  | some r =>
    if s.phase = .ready ∧ r.timer = none then
      State.postTo { s with report := some { r with timer := some s.settings.general.discardTime } } r.holder
        (.reportReady r.lot r.pages)
    else s
  | none => s

/-- DISCARD_TIMER_EXPIRY (R171). -/
def discardTimerExpiry (s : State) : State :=
  match s.report with
  | some r => if s.phase = .ready ∧ r.timer = some 0 then { s with report := none } else s
  | none => s

def execReportLot (p : Port) (tag : Byte) (lot : Word) (page : Byte) (s : State) :
    Host.Outcome State Fault Refusal :=
  .next (takeRequest p 0x26 tag (actReportLot p lot page) s)

def execCompositionCompletion (s : State) : Host.Outcome State Fault Refusal := .next (compositionCompletion s)

def execDiscardTimerExpiry (s : State) : Host.Outcome State Fault Refusal := .next (discardTimerExpiry s)

end Sys2Proof.Machine
end

