-- ==== Sys2Proof/Machine/Exposure.lean ====
section
/-!
DEFINITION. The Exposure Accountant (chapter 5): door-open seconds, the arithmetic of one lot at one step, the step,
readings without a step length, joining, and gaps.
-/
namespace Sys2Proof.Machine

/-- The band weight of an excess (R74). -/
def weight (k : ClassCfg) (x : Int) : Int := if x ≤ 0 then 0 else if x ≤ k.b1 then 1 else if x ≤ k.b2 then 2 else 4

/-- The excess E of temperature `t` (R73). -/
def excess (k : ClassCfg) (t : Int) : Int := min (t - k.limit) 2880

/-- The increment I of a step of `d` seconds with `o` door-open seconds at temperature `t` (R74). -/
def increment (k : ClassCfg) (t : Int) (d o : Nat) : Nat :=
  let e := excess k t
  let eOpen := max e k.floor
  (max e 0 * weight k e * (d - o : Nat) + eOpen * weight k eOpen * o).toNat

/-- The increment is added to the dose or to the waived dose, and saturation sets the flag (R75). -/
def Account.addDose (waived : Bool) (i : Nat) (a : Account) : Account :=
  if waived then
    { a with waived := satAdd 32 a.waived i, saturated := a.saturated || decide (2 ^ 32 ≤ a.waived + i) }
  else { a with dose := satAdd 32 a.dose i, saturated := a.saturated || decide (2 ^ 32 ≤ a.dose + i) }

/-- The heat-shock tracker moves on temperature `t` (R78). -/
def Account.track (k : ClassCfg) (t : Int) (a : Account) : Account :=
  if a.warm then
    if t ≤ k.limit then { a with warm := false, shocks := satAdd 8 a.shocks 1 } else a
  else if k.shock ≤ t then { a with warm := true }
  else a

/-- The peak follows live readings (R77). -/
def Account.seePeak (source : Source) (t : Int) (a : Account) : Account :=
  if source.live then
    match a.peak with
    | none => { a with peak := some t }
    | some x => if x < t then { a with peak := some t } else a
  else a

/-- The plain counts of a step whose temperature is present (R76). -/
def Account.countStep (source : Source) (d o : Nat) (a : Account) : Account :=
  { a with
    doorSecs := satAdd 32 a.doorSecs o
    unverified := if source = .held ∨ source = .blind then satAdd 32 a.unverified d else a.unverified
    airSecs := if source = .liveAir then satAdd 32 a.airSecs d else a.airSecs }

/-- What one step does to the account of one lot of class `k` (section 5.5). -/
def Account.charge (k : ClassCfg) (source : Source) (temp : Option Int) (d o : Nat) (waived : Bool) (a : Account) :
    Account :=
  match temp with
  | none => { a with unverified := satAdd 32 a.unverified d }
  | some t => (((a.addDose waived (increment k t d o)).countStep source d o).seePeak source t).track k t

/-- Door-open seconds o of a step of `d` seconds, and the door mark after it (R70). -/
def doorSeconds (total mark : Word) (d : Nat) : Nat × Word :=
  let o := (total - mark).toNat / 1000
  if d < o then (d, total) else (o, mark + BitVec.ofNat 32 (o * 1000))

/-- The base time that a reading sets: its scan start time, moved with every CLOCK_SET since (R68). -/
def State.readingTime (s : State) (r : Reading) : Time :=
  match s.scanner.scan with
  | some x => r.time + x.shift
  | none => r.time

/-- One step of the reading's compartment (R71). -/
def State.takeStep (s : State) (r : Reading) (d : Nat) : State :=
  let b := s.bases.get r.comp
  let om := doorSeconds (s.doors.get r.comp).openTotal b.mark d
  let (waived, t) := s.decideStep r d om.1
  let n := t.countLots (Lot.chargedIn r.comp)
  let u := t.mapLots fun l =>
    if l.chargedIn r.comp then
      { l with acct := l.acct.charge (s.settings.classes.get l.cls) r.source r.temp d om.1 waived }
    else l
  u.modBase r.comp fun _ =>
    { base := some (s.readingTime r), mark := om.2, last := some ⟨r.time, d, om.1, r.source, r.temp, waived, n⟩ }

/-- A reading without a step length closes the time since the base was set, and sets a fresh base (R69). -/
def State.takeUnstepped (s : State) (r : Reading) : State :=
  let start := s.readingTime r
  let t := match (s.bases.get r.comp).base with
    | some b => s.mapLots fun l =>
        if l.chargedIn r.comp then
          { l with acct := { l.acct with unverified := satAdd 32 l.acct.unverified (span b start) } }
        else l
    | none => s
  t.modBase r.comp fun b => { b with base := some start, mark := (s.doors.get r.comp).openTotal }

/-- The lots of the reading's compartment join (R66, R68). -/
def State.joinLots (s : State) (c : Comp) : State :=
  s.mapLots fun l => if l.comp = c then { l with joined := true } else l

/-- The Exposure Accountant takes one reading (R68). -/
def State.accountReading (s : State) (r : Reading) : State :=
  (match r.step with
    | some d => s.takeStep r d
    | none => s.takeUnstepped r).joinLots r.comp

/-- The Exposure Accountant takes all the readings of one scan completion as one event (R68). -/
def State.accountReadings (s : State) (rs : List Reading) : State := rs.foldl State.accountReading s

/-- The gap of one compartment is charged at the instant the K46 becomes READY (R83). `resumed` adds to the gap
counts. -/
def State.chargeGap (resumed : Bool) (s : State) (c : Comp) : State :=
  match (s.bases.get c).base with
  | none => s
  | some b =>
    (s.mapLots fun l =>
      if l.chargedIn c then
        { l with acct := { l.acct with
          unverified := satAdd 32 l.acct.unverified (span b s.seconds),
          gaps := if resumed then satAdd 8 l.acct.gaps 1 else l.acct.gaps } }
      else l).modBase c fun x => { x with base := some s.seconds }

/-- The gaps of all compartments (R83). -/
def State.chargeGaps (resumed : Bool) (s : State) : State := (List.finRange 4).foldl (State.chargeGap resumed) s

/-- The step bases move with the seconds count (R68). -/
def State.shiftBases (s : State) (delta : Time) : State :=
  { s with
    bases := mapV (fun b => { b with base := b.base.map (· + delta) }) s.bases
    scanner := { s.scanner with scan := s.scanner.scan.map fun x => { x with shift := x.shift + delta } } }

/-- The exposure part of COMPARTMENT_STATUS (R84). -/
def exposurePart (c : Comp) (s : State) : List Byte :=
  let b := s.bases.get c
  opt 4 timeBytes b.base ++ wordBytes ((s.doors.get c).openTotal - b.mark) ++ opt 13 StepRecord.bytes b.last
    ++ u8 (s.countLots (Lot.accountingIn c)) ++ u8 (s.countLots (Lot.chargedIn c))

end Sys2Proof.Machine
end

