-- ==== Sys2Proof/Machine/Watch.lean ====
section
/-!
DEFINITION. The Excursion Watch (chapter 2): the reading it takes at a scan completion, excursion records, and
WATCH_REARM.
-/
namespace Sys2Proof.Machine

/-- How a live reading is classed against the band (R22). -/
inductive Class where
  | hit (side : Side)
  | inBand
  deriving DecidableEq, Repr

/-- The class of temperature `t` (R22). -/
def classify (cfg : CompCfg) (t : Int) : Class :=
  if cfg.high < t then .hit .high else if t < cfg.low then .hit .low else .inBand

/-- The excursion list with a record added at the end; a list of 8 loses its earliest first (R28). -/
def addExcursion (list : List Excursion) (e : Excursion) : List Excursion :=
  (if list.length < 8 then list else list.tail) ++ [e]

/-- The newest record of a list is changed (the open record, where one is open). -/
def modLast (f : Excursion → Excursion) : List Excursion → List Excursion
  | [] => []
  | [e] => [f e]
  | e :: es => e :: modLast f es

/-- A hit updates the open record (R27). -/
def Excursion.hit (side : Side) (t : Int) (e : Excursion) : Excursion :=
  let peak := match e.side with
    | .high => if side = .high ∧ e.peak < t then t else e.peak
    | .low => if side = .low ∧ t < e.peak then t else e.peak
  { e with count := satAdd 16 e.count 1, peak := peak }

/-- Whether EXCURSION_START is posted for an opening: the notice mode and the armed flag decide (R29). -/
def Watch.announces (cfg : CompCfg) (w : Watch) : Bool := cfg.mode == .every || w.armed

/-- The watch goes to EXCURSION and opens a record, the lots accounting in the compartment count it, and the notice
is posted as the mode allows (R26, R29, R30). `hits` is the hit counter after the triggering reading. -/
def State.openExcursion (s : State) (r : Reading) (side : Side) (t : Int) (hits : Nat) : State :=
  let cfg := s.settings.comps.get r.comp
  let noticed := (s.watches.get r.comp).announces cfg
  let s1 := s.modWatch r.comp fun w => { w with
    state := .excursion, hits := hits, clears := 0,
    armed := if cfg.mode = .firstOnly then false else w.armed,
    list := addExcursion w.list ⟨r.time, side, t, hits, none, noticed⟩ }
  let s2 := s1.mapLots fun l =>
    if l.accountingIn r.comp then { l with acct := { l.acct with excursions := satAdd 8 l.acct.excursions 1 } } else l
  if noticed then s2.post (.excursionStart r.comp r.time side t) else s2

/-- The watch goes to NORMAL and closes the open record; EXCURSION_END follows a noticed opening (R25, R27, R29). -/
def State.closeExcursion (s : State) (r : Reading) : State :=
  let s1 := s.modWatch r.comp fun w => { w with
    state := .normal, hits := 0, clears := 0, list := modLast (fun e => { e with finish := some r.time }) w.list }
  match (s.watches.get r.comp).list.getLast? with
  | some e => if e.noticed then s1.post (.excursionEnd r.comp e.start r.time e.side e.peak e.count) else s1
  | none => s1

/-- A hit that is not held acts on the watch (R24, R25). -/
def State.watchHit (s : State) (r : Reading) (side : Side) (t : Int) : State :=
  let w := s.watches.get r.comp
  match w.state with
  | .normal | .suspect =>
    let hits := if w.state = .normal then 1 else satAdd 8 w.hits 1
    if (s.settings.comps.get r.comp).trigger ≤ hits then s.openExcursion r side t hits
    else s.modWatch r.comp fun w => { w with state := .suspect, hits := hits }
  | .excursion | .recovering =>
    s.modWatch r.comp fun w => { w with
      state := .excursion, clears := 0, hits := satAdd 8 w.hits 1, list := modLast (Excursion.hit side t) w.list }

/-- A reading in band acts on the watch (R24, R25). -/
def State.watchInBand (s : State) (r : Reading) : State :=
  let w := s.watches.get r.comp
  match w.state with
  | .normal => s
  | .suspect => s.modWatch r.comp fun w => { w with state := .normal, hits := 0 }
  | .excursion | .recovering =>
    let clears := if w.state = .excursion then 1 else satAdd 8 w.clears 1
    if (s.settings.comps.get r.comp).clear ≤ clears then s.closeExcursion r
    else s.modWatch r.comp fun w => { w with state := .recovering, clears := clears }

/-- The Excursion Watch takes a reading (R23, R32). -/
def State.watchReading (s : State) (r : Reading) : State :=
  match r.temp with
  | none => s
  | some t =>
    if r.source.live = false then s
    else match classify (s.settings.comps.get r.comp) t with
      | .inBand => s.watchInBand r
      | .hit .low => s.watchHit r .low t
      | .hit .high =>
        if (s.defrosts.get r.comp).state = .active then
          s.modWatch r.comp fun w => { w with heldHits := satAdd 16 w.heldHits 1 }
        else s.watchHit r .high t

/-- A change of the notice mode from EVERY to FIRST_ONLY sets the armed flag (R34). -/
def State.watchSettings (s : State) (c : Comp) (old : CompCfg) : State :=
  if old.mode = .every ∧ (s.settings.comps.get c).mode = .firstOnly then
    s.modWatch c fun w => { w with armed := true }
  else s

/-- WATCH_REARM (R31). -/
def actWatchRearm (compartment : Byte) (s : State) : Reply :=
  match indexIn 4 compartment with
  | none => reply .range s
  | some c => reply .ok (s.modWatch c fun w => { w with armed := true }) (flag (s.watches.get c).armed)

def execWatchRearm (p : Port) (tag : Byte) (compartment : Byte) (s : State) : Host.Outcome State Fault Refusal :=
  .next (takeRequest p 0x13 tag (actWatchRearm compartment) s)

end Sys2Proof.Machine
end

