-- ==== Sys2Proof/Machine/Scanner.lean ====
section
/-!
DEFINITION. The Probe Scanner (chapter 1): the scan, sample validation, history rings and fault latches, the
governing reading and its delivery, and the requests PROBE_STATUS, PROBE_CLEAR and COMPARTMENT_STATUS.
-/
namespace Sys2Proof.Machine

/-! ### One sample -/

/-- The outcome of a read (R4). -/
inductive ReadOutcome where
  | raw (r : Int)
  | fault
  | silent
  deriving DecidableEq, Repr

/-- A difference of J or less is within the limit (R5). -/
def within (j : Nat) (x y : Int) : Bool := decide ((x - y).natAbs ≤ j)

/-- The quality of a sample, its trimmed value, and the previous accepted value and pending slot after it (R5, R6). -/
def validate (cfg : ProbeCfg) (a p : Option Int) (out : ReadOutcome) :
    Quality × Option Int × Option Int × Option Int :=
  match out with
  | .fault => (.fault, none, a, none)
  | .silent => (.silent, none, a, none)
  | .raw r =>
    if r < -880 ∨ 2000 < r then (.range, none, a, none)
    else
      let t := r + cfg.trim
      match a, p with
      | none, _ => (.ok, some t, some t, none)
      | some x, none =>
        if cfg.jump = 0 ∨ within cfg.jump t x then (.ok, some t, some t, none) else (.jump, some t, some x, some t)
      | some x, some y =>
        if cfg.jump = 0 then (.ok, some t, some t, none)
        else if within cfg.jump t y then (.confirmed, some t, some t, none)
        else if within cfg.jump t x then (.ok, some t, some t, none)
        else (.jump, some t, some x, some t)

/-- A sample is accepted when its quality is OK or CONFIRMED (section 1.3). -/
def Quality.accepted (q : Quality) : Bool := q == .ok || q == .confirmed

/-- RANGE, FAULT and SILENT are given to the fault latch (R6). -/
def Quality.faulted (q : Quality) : Bool := q == .range || q == .fault || q == .silent

/-- A new entry of a history ring of 4 overwrites the oldest (R7). -/
def addSample (ring : List Sample) (x : Sample) : List Sample :=
  (if ring.length < 4 then ring else ring.tail) ++ [x]

/-- The fault latch takes a faulted sample; PROBE_FAULT is posted when it was CLEAR (R8). -/
def State.latchFault (s : State) (i : Probe) (q : Quality) (time : Time) : State :=
  match (s.probes.get i).latch with
  | none => (s.modProbe i fun x => { x with latch := some ⟨q, time, 1⟩ }).post (.probeFault i q time)
  | some l => s.modProbe i fun x => { x with latch := some { l with count := satAdd 8 l.count 1 } }

/-- The read of probe `i` in scan `x` completes (R4 to R8). -/
def State.completeRead (s : State) (x : Scan) (i : Probe) (out : ReadOutcome) : State :=
  let st := s.probes.get i
  let v := validate (x.probes.get i) st.accepted st.jumped out
  let value := if v.1.accepted then v.2.1 else none
  let t := s.modProbe i fun st => { st with
    accepted := v.2.2.1, jumped := v.2.2.2, ring := addSample st.ring ⟨x.time, v.2.1, v.1⟩ }
  let u := { t with scanner := { t.scanner with scan := some { x with reads := setAt x.reads i (.done value) } } }
  if v.1.faulted then u.latchFault i v.1 x.time else u

/-! ### The governing reading -/

/-- The greatest of a list of temperatures, or none. -/
def warmest (ts : List Int) : Option Int := ts.max?

/-- The accepted values of a compartment's probes of one role in a scan (R11). -/
def Scan.values (x : Scan) (c : Comp) (role : ProbeRole) : List Int :=
  (List.finRange 8).filterMap fun i =>
    let cfg := x.probes.get i
    if cfg.enabled && cfg.comp == c && cfg.role == role then
      match x.reads.get i with
      | .done v => v
      | _ => none
    else none

/-- Source and temperature of compartment `c`, and what the scanner keeps of it after the reading (R11, R12). -/
def Scan.govern (x : Scan) (c : Comp) (k : CompScan) : Reading × CompScan :=
  let reading (t : Option Int) (source : Source) : Reading :=
    { comp := c, time := x.time, step := x.steps.get c, temp := t, source := source }
  let live (t : Int) (source : Source) : Reading × CompScan :=
    let r := reading (some t) source
    (r, { lastLive := some t, noLive := 0, latest := some r })
  match warmest (x.values c .product) with
  | some t => live t .liveProduct
  | none =>
    match warmest (x.values c .air) with
    | some t => live t .liveAir
    | none =>
      match k.lastLive with
      | none =>
        let r := reading none .noSource
        (r, { k with latest := some r })
      | some t =>
        let n := satAdd 8 k.noLive 1
        let r := reading (some t) (if n ≤ x.hold.get c then .held else .blind)
        (r, { k with noLive := n, latest := some r })

/-- The readings of a scan, one for each compartment it found enabled, in compartment order (R14). -/
def State.readings (s : State) (x : Scan) : List Reading :=
  ((List.finRange 4).filter fun c => x.enabled.get c).map fun c => (x.govern c (s.comps.get c)).1

/-- What the scanner keeps of the compartments after the scan. -/
def State.governAll (s : State) (x : Scan) : State :=
  { s with comps := Vector.ofFn fun c : Comp =>
    if x.enabled.get c then (x.govern c (s.comps.get c)).2 else s.comps.get c }

/-- The scan completes: the readings are delivered to both blocks, and SCAN_SUMMARY is posted (R14). Bit `c` of
`watchFirst` says that the Excursion Watch takes the reading of compartment `c` before the Exposure Accountant (DESIGN
CHOICE, log 8). -/
def State.completeScan (s : State) (x : Scan) (watchFirst : BitVec 4) : State :=
  let rs := s.readings x
  let early := rs.filter fun r => watchFirst.getLsbD r.comp.val
  let late := rs.filter fun r => !watchFirst.getLsbD r.comp.val
  let s1 := early.foldl State.watchReading (s.governAll x)
  let s2 := s1.accountReadings rs
  let s3 := late.foldl State.watchReading s2
  let s4 := s3.post (.scanSummary rs)
  { s4 with scanner := { s4.scanner with scan := none } }

/-! ### The scan -/

/-- Every read the scan started has completed (R3). -/
def Scan.complete (x : Scan) : Bool := x.reads.toList.all fun r => r != .waiting

/-- The scan that starts now (R3, R13). -/
def State.newScan (s : State) : Scan :=
  let probes := s.settings.probes
  let enabled := mapV CompCfg.enabled s.settings.comps
  { time := s.seconds, shift := 0, age := 0, period := s.scanner.period, probes := probes, enabled := enabled,
    hold := mapV CompCfg.holdLimit s.settings.comps,
    steps := Vector.ofFn fun c : Comp =>
      if enabled.get c && s.scanner.lastEnabled.get c then s.scanner.lastStart.map (s.scanner.elapsed - ·) else none,
    reads := mapV (fun cfg => if cfg.enabled then .waiting else .off) probes }

/-- A compartment that a scan finds disabled (R15). -/
def State.dropDisabled (s : State) (x : Scan) : State :=
  { s with comps := Vector.ofFn fun c : Comp => if x.enabled.get c then s.comps.get c else CompScan.fresh }

/-- A scan starts: the copies are taken, the next due time is set, and the reads begin (R3, R15). -/
def State.startScan (s : State) : State :=
  let x := s.newScan
  let t := s.dropDisabled x
  { t with scanner := { t.scanner with
    nextDue := t.scanner.elapsed + t.scanner.period, lastStart := some t.scanner.elapsed, lastEnabled := x.enabled,
    scan := some x } }

/-- SCAN_START: the elapsed-seconds count has reached the next due time (R3); no scan starts while STARTING (R19).
A scan with no enabled probe completes at its start. -/
def scanStart (s : State) : State :=
  if s.phase = .ready ∧ s.scanner.scan = none ∧ s.scanner.nextDue ≤ s.scanner.elapsed then
    let t := s.startScan
    match t.scanner.scan with
    | some x => if x.complete then t.completeScan x 0 else t
    | none => t
  else s

/-- The scan in flight, if it is still waiting for probe `i`. -/
def State.waitingFor (s : State) (i : Probe) : Option Scan :=
  if s.phase = .ready then s.scanner.scan.filter fun x => x.reads.get i == .waiting else none

/-- What a valid answer makes of its read; the 1 s of a read has run out at 1000 ms, and the read is then SILENT
(R4). -/
def readOutcome (answer : ProbeAnswer) (age : Nat) : ReadOutcome :=
  if 1000 ≤ age then .silent
  else match answer with
    | .value r => .raw r
    | .fault => .fault

/-- PROBE_READ_COMPLETION (R4): the first valid answer ends the read. -/
def probeReadCompletion (i : Probe) (answer : ProbeAnswer) (s : State) : State :=
  match s.waitingFor i with
  | some x => s.completeRead x i (readOutcome answer x.age)
  | none => s

/-- PROBE_INVALID_ANSWER: the answer is discarded, and the read goes on waiting (R4). -/
def probeInvalidAnswer (_ : Probe) (s : State) : State := s

/-- READ_TIMEOUT: no valid answer within 1 s of the read's start (R4). -/
def readTimeout (i : Probe) (s : State) : State :=
  match s.waitingFor i with
  | some x => if 1000 ≤ x.age then s.completeRead x i .silent else s
  | none => s

/-- SCAN_COMPLETION (R14). -/
def scanCompletion (watchFirst : BitVec 4) (s : State) : State :=
  if s.phase = .ready then
    match s.scanner.scan with
    | some x => if x.complete then s.completeScan x watchFirst else s
    | none => s
  else s

/-! ### Requests -/

/-- A fault latch in a response body: CLEAR or SET, then its fields as a part that may be absent. -/
def FaultLatch.bytes (l : Option FaultLatch) : List Byte :=
  u8 (if l.isSome then 1 else 0) ++ opt 6 (fun l : FaultLatch => u8 l.quality.code ++ timeBytes l.time ++ u8 l.count) l

/-- A history ring entry in a response body. -/
def Sample.bytes (x : Sample) : List Byte := timeBytes x.time ++ tempBytes x.value ++ u8 x.quality.code

/-- PROBE_STATUS (R10). -/
def actProbeStatus (probe : Byte) (s : State) : Reply :=
  match indexIn 8 probe with
  | none => reply .range s
  | some i =>
    let x := s.probes.get i
    reply .ok s ((s.settings.probes.get i).bytes ++ tempBytes x.accepted ++ tempBytes x.jumped
      ++ counted Sample.bytes x.ring ++ FaultLatch.bytes x.latch)

/-- PROBE_CLEAR (R9). -/
def actProbeClear (probe : Byte) (s : State) : Reply :=
  match indexIn 8 probe with
  | none => reply .range s
  | some i => reply .ok (s.modProbe i fun x => { x with latch := none }) (flag (s.probes.get i).latch.isSome)

/-- The scanner part of COMPARTMENT_STATUS (R16). Whether the compartment is enabled is read from the active settings,
not from the last scan's copy (DESIGN CHOICE, log 20, unsafe). -/
def scannerPart (c : Comp) (s : State) : List Byte :=
  let k := s.comps.get c
  flag (s.settings.comps.get c).enabled ++ opt 10 Reading.bytes k.latest ++ u8 k.noLive ++ u16 s.scanner.period
    ++ u16 (s.scanner.nextDue - s.scanner.elapsed)

/-- The watch part of COMPARTMENT_STATUS (R35). -/
def watchPart (c : Comp) (s : State) : List Byte :=
  let cfg := s.settings.comps.get c
  let w := s.watches.get c
  t16 cfg.low ++ t16 cfg.high ++ u8 cfg.trigger ++ u8 cfg.clear ++ u8 cfg.mode.code ++ u8 w.state.code ++ u8 w.hits
    ++ u8 w.clears ++ flag w.armed ++ u16 w.heldHits ++ counted Excursion.bytes w.list

/-- The door part of COMPARTMENT_STATUS (R49). The unreported count of a CLEAR latch is sent as 0, without a presence
flag (DESIGN CHOICE, log 6, unsafe). -/
def doorPart (c : Comp) (s : State) : List Byte :=
  let d := s.doors.get c
  u8 d.state.code ++ u8 (if d.latch.isSome then 1 else 0) ++ u8 ((d.latch.map DoorLatch.unreported).getD 0)

/-- The defrost part of COMPARTMENT_STATUS (R63). -/
def defrostPart (c : Comp) (s : State) : List Byte := u8 (s.defrosts.get c).state.code ++ u16 (s.defrosts.get c).pool

/-- COMPARTMENT_STATUS: the scanner, watch, door, defrost and exposure parts, in that order (R16). -/
def actCompartmentStatus (compartment : Byte) (s : State) : Reply :=
  match indexIn 4 compartment with
  | none => reply .range s
  | some c =>
    reply .ok s (scannerPart c s ++ watchPart c s ++ doorPart c s ++ defrostPart c s ++ exposurePart c s)

def execCompartmentStatus (p : Port) (tag : Byte) (compartment : Byte) (s : State) :
    Host.Outcome State Fault Refusal :=
  .next (takeRequest p 0x10 tag (actCompartmentStatus compartment) s)

def execProbeStatus (p : Port) (tag : Byte) (probe : Byte) (s : State) : Host.Outcome State Fault Refusal :=
  .next (takeRequest p 0x11 tag (actProbeStatus probe) s)

def execProbeClear (p : Port) (tag : Byte) (probe : Byte) (s : State) : Host.Outcome State Fault Refusal :=
  .next (takeRequest p 0x12 tag (actProbeClear probe) s)

def execScanStart (s : State) : Host.Outcome State Fault Refusal := .next (scanStart s)

def execProbeReadCompletion (i : Probe) (answer : ProbeAnswer) (s : State) : Host.Outcome State Fault Refusal :=
  .next (probeReadCompletion i answer s)

def execProbeInvalidAnswer (i : Probe) (s : State) : Host.Outcome State Fault Refusal :=
  .next (probeInvalidAnswer i s)

def execReadTimeout (i : Probe) (s : State) : Host.Outcome State Fault Refusal := .next (readTimeout i s)

def execScanCompletion (watchFirst : BitVec 4) (s : State) : Host.Outcome State Fault Refusal :=
  .next (scanCompletion watchFirst s)

end Sys2Proof.Machine
end

