-- ==== Sys2Proof/Machine/Routes.lean ====
section
/-!
DEFINITION. Routes, stops and receipts (chapter 7): ROUTE_BEGIN, STOP_LOAD, DISPATCH, RETURN, opening and closing a
stop, the stop timer, and STOP_STATUS.
-/
namespace Sys2Proof.Machine

/-- How many stops in the table have a property. -/
def State.countStops (s : State) (f : Stop → Bool) : Nat :=
  s.stops.toList.countP fun o => match o with
    | some st => f st
    | none => false

/-- ROUTE_BEGIN (R105). -/
def actRouteBegin (number : Half) (s : State) : Reply :=
  if s.route.state = .noRoute ∨ s.route.state = .returned then
    reply .ok
      { s with stops := Vector.replicate 32 none,
               route := { number := some number, state := .loading, beginTime := some s.seconds,
                          dispatchTime := none, returnTime := none, openStop := none } }
      (halfBytes number ++ u8 (s.countLots fun _ => true))
  else reply .state s

/-- The record that STOP_LOAD adds (R106). -/
def Stop.load (consignee mask : Word) (budget limit : Half) (planned : List (Word × Half)) : Stop :=
  { consignee := consignee, mask := mask, budget := budget.toNat, limit := limit.toNat,
    planned := planned.map fun e => (e.1, e.2.toNat), state := .planned, outOfOrder := false, late := false,
    doorOver := false, short := false, openTime := none, closeTime := none, doorSecs := Vector.replicate 4 0,
    timer := none, offers := [], accepted := [] }

/-- No lot number appears twice. -/
def noRepeat : List Word → Bool
  | [] => true
  | x :: xs => !xs.contains x && noRepeat xs

/-- STOP_LOAD (R107). -/
def actStopLoad (stop : Byte) (consignee mask : Word) (budget limit : Half) (planned : List (Word × Half))
    (s : State) : Reply :=
  if s.route.state ≠ .loading then reply .state s
  else match indexIn 32 stop with
    | none => reply .range s
    | some n =>
      if 8 < planned.length ∨ planned.any (fun e => e.1 == 0 || e.2 == 0) then reply .range s
      else if (s.stops.get n).isSome ∨ noRepeat (planned.map (·.1)) = false then reply .duplicate s
      else if planned.any (fun e => (s.lotNamed e.1).isNone) then reply .unknown s
      else
        let t := { s with stops := setAt s.stops n (some (Stop.load consignee mask budget limit planned)) }
        reply .ok t (u8 n.val ++ u8 (t.countStops fun _ => true))

/-- The doors that are not CLOSED (R109). -/
def State.openDoors (s : State) : List Comp := (List.finRange 4).filter fun d => (s.doors.get d).state != .closed

/-- A STOWED lot is dispatched, with its receipt (R110). -/
def Lot.dispatch (now : Time) (route : Half) (l : Lot) : Lot :=
  if l.state = .stowed then { l with state := .onBoard, dispatched := some ⟨now, route, l.acct⟩ } else l

/-- DISPATCH (R109, R110). A DOOR_OPEN refusal names the doors by a count and their numbers in ascending order (DESIGN
CHOICE, log 6, unsafe). -/
def actDispatch (s : State) : Reply :=
  if s.route.state ≠ .loading then reply .state s
  else if s.clockUnset then reply .clockUnset s
  else if s.openDoors ≠ [] then reply .doorOpen s (counted (fun d : Comp => u8 d.val) s.openDoors)
  else
    let n := s.countLots fun l => l.state == .stowed
    if n = 0 then reply .state s
    else
      let t := s.mapLots (Lot.dispatch s.seconds (s.route.number.getD 0))
      reply .ok { t with route := { t.route with state := .dispatched, dispatchTime := some s.seconds } }
        (timeBytes s.seconds ++ u8 n)

/-- An ON_BOARD lot is returned, with its receipt (R117). -/
def Lot.bringBack (now : Time) (l : Lot) : Lot :=
  if l.state = .onBoard then
    { l with state := .returned, returned := some ⟨now, l.qty.onBoard, l.acct⟩, qty := l.qty.bringBack }
  else l

/-- A PLANNED stop is SKIPPED (R117). -/
def Stop.skip (st : Stop) : Stop := if st.state = .planned then { st with state := .skipped } else st

/-- RETURN (R117). -/
def actVanReturn (s : State) : Reply :=
  if s.route.state ≠ .dispatched ∨ s.route.openStop.isSome then reply .state s
  else
    let t := s.mapLots (Lot.bringBack s.seconds)
    reply .ok
      { t with stops := mapV (Option.map Stop.skip) t.stops,
               route := { t.route with state := .returned, returnTime := some s.seconds } }
      (timeBytes s.seconds ++ u8 (s.countStops fun st => st.state == .planned)
        ++ u8 (s.countLots fun l => l.state == .onBoard))

/-- A stop with a lower number is PLANNED (R112). -/
def State.plannedBelow (s : State) (n : StopNo) : Bool :=
  (List.finRange 32).any fun m => decide (m.val < n.val) && (match s.stops.get m with
    | some st => st.state == .planned
    | none => false)

/-- A running timer of `limit` seconds, or a stopped one where the limit is 0 (R112, R120). -/
def limitTimer (limit : Nat) : Option Nat := if 0 < limit then some limit else none

/-- The stop opens (R112). -/
def State.openStop (s : State) (n : StopNo) : State :=
  let below := s.plannedBelow n
  let t := s.modStop n fun st => { st with
    state := .opened, openTime := some s.seconds, outOfOrder := below, timer := limitTimer st.limit }
  { t with route := { t.route with openStop := some n },
           doors := mapV (fun d => { d with stopAcc := 0 }) t.doors }

/-- STOP_OPEN (R112). -/
def actStopOpen (stop : Byte) (s : State) : Reply :=
  match indexIn 32 stop with
  | none => reply .range s
  | some n =>
    if s.route.state ≠ .dispatched then reply .state s
    else match s.stops.get n with
      | none => reply .unknown s
      | some st =>
        if s.route.openStop.isSome ∨ st.state ≠ .planned then reply .state s
        else reply .ok (s.openStop n) (timeBytes s.seconds ++ u16 st.limit ++ flag (s.plannedBelow n))

/-- The quantity accepted of a lot number over the handoffs offered while the stop was OPEN (R115). -/
def State.acceptedAt (s : State) (offers : List HIndex) (lot : Word) : Nat :=
  (offers.map fun j => match s.handoffs.get j with
    | some h => match s.lots.get h.slot with
      | some l => if l.number = lot then h.accepted else 0
      | none => 0
    | none => 0).sum

/-- The quantities accepted for a stop's planned entries, in list order: as they stand now while the stop is OPEN,
and final once it is CLOSED (R115, R119). -/
def State.acceptedOf (s : State) (st : Stop) : List Nat :=
  if st.state = .closed then st.accepted else st.planned.map fun e => s.acceptedAt st.offers e.1

/-- The stop closes with the quantities accepted; SHORT is judged (R114, R115). -/
def Stop.close (now : Time) (accepted : List Nat) (st : Stop) : Stop :=
  { st with state := .closed, closeTime := some now, timer := none, accepted := accepted,
            short := st.short || (st.planned.zip accepted).any fun e => decide (e.2 < e.1.2) }

/-- The stop's flags in a response body: OUT_OF_ORDER, LATE, DOOR_OVER, SHORT. -/
def Stop.flagBytes (st : Stop) : List Byte :=
  flag st.outOfOrder ++ flag st.late ++ flag st.doorOver ++ flag st.short

/-- The OPEN stop closes: its waiting handoffs are resolved, SHORT is judged, and the Door Monitor stops counting
(R114; DEDUCED, log 14, unsafe). -/
def State.closeStop (s : State) (n : StopNo) (st : Stop) : State :=
  let t := st.offers.foldl State.resolve (s.drainStop n)
  let u := t.modStop n (Stop.close s.seconds (st.planned.map fun e => t.acceptedAt st.offers e.1))
  { u with route := { u.route with openStop := none },
           doors := mapV (fun d => { d with stopAcc := 0 }) u.doors }

/-- How many of the listed handoffs are in a state. -/
def State.countHandoffs (s : State) (list : List HIndex) (x : HandoffState) : Nat :=
  list.countP fun j => match s.handoffs.get j with
    | some h => h.state == x
    | none => false

/-- A planned entry with its quantity accepted in the response to STOP_CLOSE: planned, accepted. -/
def entryBytes (e : (Word × Nat) × Nat) : List Byte := u16 e.1.2 ++ u16 e.2

/-- The body of STOP_CLOSE (R114): `s` is the state before the close and `t` the state after it. -/
def closeBody (n : StopNo) (st : Stop) (s t : State) : List Byte :=
  match t.stops.get n with
  | some after =>
    u8 n.val ++ after.flagBytes ++ timeBytes s.seconds ++ u32 after.doorSum ++ u8 (s.countHandoffs st.offers .offered)
      ++ u8 (s.countHandoffs st.offers .proofReady) ++ counted entryBytes (after.planned.zip after.accepted)
  | none => []

/-- STOP_CLOSE (R114). -/
def actStopClose (s : State) : Reply :=
  match s.currentStop with
  | none => reply .state s
  | some (n, st) =>
    let t := s.closeStop n st
    reply .ok t (closeBody n st s t)

/-- STOP_TIMER_EXPIRY (R113). -/
def stopTimerExpiry (s : State) : State :=
  match s.currentStop with
  | some (n, st) =>
    if s.phase = .ready ∧ st.timer = some 0 then
      let t := s.modStop n fun st => { st with timer := none, late := true }
      if st.late then t else t.post (.stopLate n (st.openTime.getD 0) st.limit)
    else s
  | none => s

/-- The route part of STOP_STATUS (R119). -/
def routePart (s : State) : List Byte :=
  let r := s.route
  opt 2 halfBytes r.number ++ u8 r.state.code ++ opt 4 timeBytes r.beginTime ++ opt 4 timeBytes r.dispatchTime
    ++ opt 4 timeBytes r.returnTime ++ opt 1 (fun n : StopNo => u8 n.val) r.openStop
    ++ u8 (s.countStops fun st => st.state == .planned) ++ u8 (s.countStops fun st => st.state == .opened)
    ++ u8 (s.countStops fun st => st.state == .closed) ++ u8 (s.countStops fun st => st.state == .skipped)

/-- A planned entry in STOP_STATUS: lot number, quantity, and the quantity accepted beside them (DESIGN CHOICE, log 6,
unsafe). -/
def statusEntry (e : (Word × Nat) × Nat) : List Byte := wordBytes e.1.1 ++ u16 e.1.2 ++ u16 e.2

/-- The stop part of STOP_STATUS, 40 bytes and 8 for each planned entry (R119). -/
def stopPart (s : State) (n : StopNo) (st : Stop) : List Byte :=
  u8 n.val ++ wordBytes st.consignee ++ wordBytes st.mask ++ u16 st.budget ++ u16 st.limit
    ++ counted statusEntry (st.planned.zip (s.acceptedOf st)) ++ u8 st.state.code ++ st.flagBytes
    ++ opt 4 timeBytes st.openTime ++ opt 4 timeBytes st.closeTime ++ st.doorSecs.toList.flatMap u16
    ++ opt 2 u16 st.timer

/-- STOP_STATUS (R119). -/
def actStopStatus (stop : Byte) (s : State) : Reply :=
  match indexIn 32 stop with
  | none => reply .range s
  | some n => reply .ok s (routePart s ++ opt 40 (stopPart s n) (s.stops.get n))

def execRouteBegin (p : Port) (tag : Byte) (number : Half) (s : State) : Host.Outcome State Fault Refusal :=
  .next (takeRequest p 0x28 tag (actRouteBegin number) s)

def execStopLoad (p : Port) (tag : Byte) (stop : Byte) (consignee mask : Word) (budget limit : Half)
    (planned : List (Word × Half)) (s : State) : Host.Outcome State Fault Refusal :=
  .next (takeRequest p 0x29 tag (actStopLoad stop consignee mask budget limit planned) s)

def execDispatch (p : Port) (tag : Byte) (s : State) : Host.Outcome State Fault Refusal :=
  .next (takeRequest p 0x2A tag actDispatch s)

def execVanReturn (p : Port) (tag : Byte) (s : State) : Host.Outcome State Fault Refusal :=
  .next (takeRequest p 0x2B tag actVanReturn s)

def execStopOpen (p : Port) (tag : Byte) (stop : Byte) (s : State) : Host.Outcome State Fault Refusal :=
  .next (takeRequest p 0x2C tag (actStopOpen stop) s)

def execStopClose (p : Port) (tag : Byte) (s : State) : Host.Outcome State Fault Refusal :=
  .next (takeRequest p 0x2D tag actStopClose s)

def execStopStatus (p : Port) (tag : Byte) (stop : Byte) (s : State) : Host.Outcome State Fault Refusal :=
  .next (takeRequest p 0x2E tag (actStopStatus stop) s)

def execStopTimerExpiry (s : State) : Host.Outcome State Fault Refusal := .next (stopTimerExpiry s)

end Sys2Proof.Machine
end

