-- ==== Sys2Proof/Machine/Starts.lean ====
section
/-!
DEFINITION. Starting (section 11.4) with each chapter's table of starts (R20, R36, R51, R64, R86, R102, R120, R139,
R156, R173), the loss of each supply, and the advance of the seconds count (R181).

A start loads the settings and sets the state that no start keeps when it begins. The retained memory changes when
the start becomes READY, whole or not at all (R180, part 3; DESIGN CHOICE, log 13, unsafe).
-/
namespace Sys2Proof.Machine

/-- The settings that a start loads from the store (R180, part 1). -/
def Store.load (st : Store) : Settings := if st.valid then st.contents else Settings.factory

/-- What the scanner keeps of a probe through a start: its fault latch (R20). -/
def ProbeState.atStart (x : ProbeState) : ProbeState := { ProbeState.fresh with latch := x.latch }

/-- What an allowance keeps through a start: its pool (R64). -/
def Allowance.atStart (a : Allowance) : Allowance := Allowance.fresh a.pool

/-- What a step base keeps through a start: its base time (R86). -/
def StepBase.atStart (b : StepBase) : StepBase := { b with mark := 0, last := none }

/-- The scanner as a start sets it: no scan, the default period, the first scan due now (R19, R20). -/
def Scanner.atStart (g : General) (x : Scanner) : Scanner :=
  { x with nextDue := x.elapsed, period := g.defaultPeriod, lastStart := none, scan := none }

/-- A start begins (R180, part 1; R173). -/
def State.beginStart (s : State) (cause : StartCause) : State :=
  let settings := s.store.load
  { s with
    phase := .starting cause
    settings := settings
    storeWrite := false
    defaulted := !s.store.valid
    restartTaken := false
    restartDue := false
    scanner := s.scanner.atStart settings.general
    probes := mapV ProbeState.atStart s.probes
    comps := Vector.replicate 4 CompScan.fresh
    doors := mapV (fun d => Door.fresh d.high) s.doors
    defrosts := mapV Allowance.atStart s.defrosts
    bases := mapV StepBase.atStart s.bases
    assessor := none
    ports := mapV PortState.fresh settings.ports
    report := none }

/-- RESTART: OK, and the start follows its response (R180). A scan in flight is abandoned at this instant (R20;
DEDUCED, log 13). A scan that starts after it and completes before the start begins takes its step length from the
abandoned scan's start (R13), so that the seconds before that start fall neither in a step nor in the gap of R83 (DESIGN
CHOICE, log 13, unsafe). -/
def actRestart (s : State) : Reply :=
  if s.storeWrite then reply .busy s
  else { status := .ok, body := [], after := .restart,
           state := { s with restartTaken := true, scanner := { s.scanner with scan := none } } }

/-- RESTART_START: the response to a RESTART has been sent in full or dropped (R180). The response to a RESTART taken on
another port, if it is still unsent, is lost (R173; DESIGN CHOICE, log 23, unsafe). -/
def restartStart (s : State) : State := if s.phase = .ready ∧ s.restartDue then s.beginStart .restart else s

/-- POWER_UP (R180). -/
def powerUp (s : State) : State := if s.phase = .off then s.beginStart .powerUp else s

/-- The store as a release of RSTN leaves a write in flight: a free value (log 3, safe). -/
def Store.interrupted (active : Settings) (outcome : Config.InterruptedWrite) (st : Store) : Store :=
  match outcome with
  | .before => st
  | .after => { contents := active, valid := true }
  | .failing => { st with valid := false }

/-- RSTN_RESET: starts the K46 as at power-up (R180). -/
def rstnReset (s : State) : State :=
  if s.phase = .off then s
  else if s.storeWrite then
    State.beginStart { s with
      store := s.store.interrupted s.settings (Config.interruptedWrite s.draws), draws := s.draws + 1 } .powerUp
  else s.beginStart .powerUp

/-- The retained memory as a full start sets it up (R20, R36, R64, R86, R102, R120, R139, R156, R181). -/
def State.clearRetained (s : State) : State :=
  { s with
    seconds := 0
    clockUnset := true
    probes := mapV (fun x => { x with latch := none }) s.probes
    watches := Vector.replicate 4 Watch.fresh
    defrosts := mapV (fun c => Allowance.fresh c.poolMax) s.settings.comps
    bases := Vector.replicate 4 StepBase.fresh
    lots := Vector.replicate 64 none
    route := Route.fresh
    stops := Vector.replicate 32 none
    handoffs := Vector.replicate 128 none
    claims := []
    nextClaim := 1 }

/-- MAIN_POWER_LOSS: scans, starts, assessments and unsent responses are abandoned; a store write in flight leaves a
store that fails its check (R179, R180). Without a marker no supply holds the retained memory (DEDUCED, log 11,
unsafe). -/
def mainPowerLoss (s : State) : State :=
  if s.phase = .off then s
  else
    let t := if s.marker then s else s.clearRetained
    { t with
      phase := .off
      store := if t.storeWrite then { t.store with valid := false } else t.store
      storeWrite := false
      restartTaken := false
      restartDue := false
      scanner := { t.scanner with scan := none }
      assessor := none
      ports := mapV (fun ps => { ps with rx := .hunting, request := none, tx := none }) t.ports
      report := none }

/-- BACKUP_SUPPLY_LOSS: the marker is kept while the backup supply holds, so any start that follows is a full start;
with main power absent too, the retained memory and the seconds count are lost (R180, R181; DEDUCED, log 11,
unsafe). -/
def backupSupplyLoss (s : State) : State :=
  { (if s.phase = .off then s.clearRetained else s) with marker := false }

/-- The pools are clamped to the settings loaded (R64). -/
def State.clampPools (s : State) : State :=
  { s with defrosts := Vector.ofFn fun c : Comp =>
    let a := s.defrosts.get c
    { a with pool := min a.pool (s.settings.comps.get c).poolMax } }

/-- The OPEN stop's timer is restarted with the full time limit (R120). -/
def State.restartStopTimer (s : State) : State :=
  match s.route.openStop with
  | some n => s.modStop n fun st => { st with timer := limitTimer st.limit }
  | none => s

/-- Part 3 of a resumed start or RESTART: handoffs and claims are resolved, gaps are charged (R83, R139, R156). -/
def State.keepRetained (s : State) (resumed : Bool) : State :=
  let t := s.clampPools.resolveAll
  (State.chargeGaps resumed { t with claims := t.claims.map Claim.atStart }).restartStopTimer

/-- What becomes of the retained memory at READY, by the kind of start (R180, part 2). -/
def State.setRetained (s : State) (cause : StartCause) : State :=
  if s.marker then s.keepRetained (cause == .powerUp) else { s.clearRetained with marker := true }

/-- START_READY: the K46 becomes READY; the first scan is due, refill timers begin, and the assessor may start (R180,
R19, R54, R147). -/
def startReady (s : State) : State :=
  match s.phase with
  | .starting cause =>
    let t := s.setRetained cause
    State.startAssessor { t with
      phase := .ready
      scanner := { t.scanner with nextDue := t.scanner.elapsed }
      defrosts := mapV (fun a => { a with refill := 0 }) t.defrosts }
  | _ => s

def execRestart (p : Port) (tag : Byte) (s : State) : Host.Outcome State Fault Refusal :=
  .next (takeRequest p 0x09 tag actRestart s)

def execRestartStart (s : State) : Host.Outcome State Fault Refusal := .next (restartStart s)

def execPowerUp (s : State) : Host.Outcome State Fault Refusal := .next (powerUp s)

def execRstnReset (s : State) : Host.Outcome State Fault Refusal := .next (rstnReset s)

def execMainPowerLoss (s : State) : Host.Outcome State Fault Refusal := .next (mainPowerLoss s)

def execStartReady (s : State) : Host.Outcome State Fault Refusal := .next (startReady s)

def execBackupSupplyLoss (s : State) : Host.Outcome State Fault Refusal := .next (backupSupplyLoss s)

/-- SECONDS_COUNT_ADVANCE (R181, log 7). -/
def execSecondsCountAdvance (s : State) : Host.Outcome State Fault Refusal := .next s.advanceSecond

end Sys2Proof.Machine
end

