-- ==== Sys2Proof/Machine/Store.lean ====
section
/-!
DEFINITION. Settings and clock (sections 11.3 and 11.5): CLOCK_GET, CLOCK_SET, SETTINGS_GET, SETTINGS_PUT with what an
accepted entry does in each block, and the completion of a store write.
-/
namespace Sys2Proof.Machine

/-- CLOCK_GET (R181). -/
def actClockGet (s : State) : Reply := reply .ok s (timeBytes s.seconds ++ flag s.clockUnset)

/-- CLOCK_SET: the count and the step bases move together, and the clock is no longer unset (R181, R68, R118). -/
def actClockSet (seconds : Word) (s : State) : Reply :=
  if s.route.state = .dispatched then reply .state s
  else reply .ok { s.shiftBases (seconds - s.seconds) with seconds := seconds, clockUnset := false }
    (timeBytes s.seconds ++ timeBytes seconds)

/-- SETTINGS_GET (R179). -/
def actSettingsGet (group index : Byte) (s : State) : Reply :=
  match entryRef group index with
  | none => reply .range s
  | some r => reply .ok s (s.settings.entryBytes r ++ flag s.storeWrite ++ flag s.defaulted)

/-- An entry is in use: a class that a lot names, or the last DOCK role (R179, check 5). `new` are the settings with
the entry changed. -/
def State.entryInUse (s : State) (r : EntryRef) (new : Settings) : Bool :=
  match r with
  | .cls k => 0 < s.countLots fun l => l.cls == k
  | .port _ => !(new.ports.toList.any fun c => c.role == .dock)
  | _ => false

/-- What the blocks do at the instant an entry is accepted (R2, R18, R34, R50, R62, R158). `s` has the new settings
and `old` are the former ones; `p` is the port the request arrived on. -/
def State.applyEntry (s : State) (p : Port) (r : EntryRef) (old : Settings) : State :=
  match r with
  | .general => s.recomputePeriod
  | .port q =>
    let cfg := s.settings.ports.get q
    s.modPort q fun ps => { ps with changes := ps.changes ++ [⟨cfg.role, cfg.baud, p, false⟩] }
  | .probe i => s.modProbe i fun x => { x with accepted := none, jumped := none }
  | .door d => s.doorSettings d (old.doors.get d)
  | .compartment c => (s.watchSettings c (old.comps.get c)).defrostSettings c
  | .cls _ => s

/-- What follows the response to an accepted entry: a PORT entry waits for it (R158). -/
def EntryRef.after : EntryRef → After
  | .port q => .port q
  | _ => .nothing

/-- The BODY has not the length that its group's entry size fixes (R162, step 4; R183). -/
def badEntryLength (group : Byte) (entry : List Byte) : Bool :=
  match entrySize group with
  | some n => entry.length != n
  | none => false

/-- SETTINGS_PUT (R179). -/
def actSettingsPut (p : Port) (group index : Byte) (entry : List Byte) (s : State) : Reply :=
  if badEntryLength group entry then reply .badRequest s
  else match entryRef group index with
    | none => reply .range s
    | some r =>
      if s.route.state = .dispatched then reply .state s
      else if s.storeWrite ∨ s.restartTaken then reply .busy s
      else match s.settings.put r entry with
        | none => reply .range s
        | some new =>
          if s.entryInUse r new then reply .inUse s
          else
            { status := .ok, body := s.settings.entryBytes r, after := r.after,
              state := State.applyEntry { s with settings := new, storeWrite := true } p r s.settings }

/-- STORE_WRITE_COMPLETION: the store holds the active copy with a good CRC (R179). -/
def storeWriteCompletion (s : State) : State :=
  if s.phase ≠ .off ∧ s.storeWrite then
    { s with store := { contents := s.settings, valid := true }, storeWrite := false, defaulted := false }
  else s

def execClockGet (p : Port) (tag : Byte) (s : State) : Host.Outcome State Fault Refusal :=
  .next (takeRequest p 0x05 tag actClockGet s)

def execClockSet (p : Port) (tag : Byte) (seconds : Word) (s : State) : Host.Outcome State Fault Refusal :=
  .next (takeRequest p 0x06 tag (actClockSet seconds) s)

def execSettingsGet (p : Port) (tag : Byte) (group index : Byte) (s : State) : Host.Outcome State Fault Refusal :=
  .next (takeRequest p 0x07 tag (actSettingsGet group index) s)

def execSettingsPut (p : Port) (tag : Byte) (group index : Byte) (entry : List Byte) (s : State) :
    Host.Outcome State Fault Refusal :=
  .next (takeRequest p 0x08 tag (actSettingsPut p group index entry) s)

def execStoreWriteCompletion (s : State) : Host.Outcome State Fault Refusal := .next (storeWriteCompletion s)

end Sys2Proof.Machine
end

