-- ==== Sys2Proof/Machine/Links.lean ====
section
/-!
DEFINITION. The line of a link port (chapter 10): receiving frames, handing them to the request handling, the ends of
the frames that the transmitter sends, notices, port breaks, and the effect of a changed PORT entry.
-/
namespace Sys2Proof.Machine

/-! ### The request handling (R161, R162) -/

/-- A request acts as its own command does; a command that is no request leaves the state alone. -/
def serve (c : Instr) (s : State) : Host.Outcome State Fault Refusal :=
  match c with
  | .portStatus p t => execPortStatus p t s
  | .countersClear p t => execCountersClear p t s
  | .noticeEnable p t v => execNoticeEnable p t v s
  | .scanBid p t n => execScanBid p t n s
  | .clockGet p t => execClockGet p t s
  | .clockSet p t n => execClockSet p t n s
  | .settingsGet p t g i => execSettingsGet p t g i s
  | .settingsPut p t g i entry => execSettingsPut p t g i entry s
  | .restart p t => execRestart p t s
  | .compartmentStatus p t c => execCompartmentStatus p t c s
  | .probeStatus p t i => execProbeStatus p t i s
  | .probeClear p t i => execProbeClear p t i s
  | .watchRearm p t c => execWatchRearm p t c s
  | .doorStatus p t d => execDoorStatus p t d s
  | .doorRearm p t d => execDoorRearm p t d s
  | .defrostStatus p t c => execDefrostStatus p t c s
  | .defrostAsk p t c => execDefrostAsk p t c s
  | .defrostEnd p t c => execDefrostEnd p t c s
  | .lotLoad p t lot k c q => execLotLoad p t lot k c q s
  | .lotMove p t lot c => execLotMove p t lot c s
  | .lotWriteOff p t lot q => execLotWriteOff p t lot q s
  | .lotRetire p t lot force => execLotRetire p t lot force s
  | .lotStatus p t lot part => execLotStatus p t lot part s
  | .lotList p t first => execLotList p t first s
  | .reportLot p t lot page => execReportLot p t lot page s
  | .routeBegin p t n => execRouteBegin p t n s
  | .stopLoad p t n x m b l planned => execStopLoad p t n x m b l planned s
  | .dispatch p t => execDispatch p t s
  | .vanReturn p t => execVanReturn p t s
  | .stopOpen p t n => execStopOpen p t n s
  | .stopClose p t => execStopClose p t s
  | .stopStatus p t n => execStopStatus p t n s
  | .handoffOffer p t lot q => execHandoffOffer p t lot q s
  | .handoffAccept p t i code a cond => execHandoffAccept p t i code a cond s
  | .handoffCopied p t i v => execHandoffCopied p t i v s
  | .handoffWithdraw p t i => execHandoffWithdraw p t i s
  | .handoffStatus p t i => execHandoffStatus p t i s
  | .claimLodge p t i code q => execClaimLodge p t i code q s
  | .claimWithdraw p t n => execClaimWithdraw p t n s
  | .claimFetch p t n => execClaimFetch p t n s
  | .claimClear p t n => execClaimClear p t n s
  | .claimList p t => execClaimList p t s
  | _ => .next s

/-- A frame whose KIND is not defined: NOT_READY while STARTING (step 1), else BAD_REQUEST with KIND 0x80 and an empty
BODY (step 2). -/
def undefinedRequest (p : Port) (kind tag : Byte) (s : State) : State :=
  if s.hears p = false ∨ definedKind kind then s
  else if (s.ports.get p).request.isSome then s.modPort p fun ps => { ps with lost := satAdd 16 ps.lost 1 }
  else match s.phase with
    | .ready => State.respond p kind 0x80 tag (reply .badRequest s)
    | _ => State.respond p kind (answerKind kind) tag (reply .notReady s)

/-- The receiver hands a good frame over (R161). -/
def handFrame (p : Port) (kind tag : Byte) (body : List Byte) (s : State) : Host.Outcome State Fault Refusal :=
  match decodeRequest p kind tag body with
  | .undefined => .next (undefinedRequest p kind tag s)
  | .badLength => .next (takeRequest p kind tag (reply .badRequest) s)
  | .request c => serve c s

/-! ### The receiver (R159) -/

/-- What a received byte makes of a receiver. -/
inductive Received where
  | stay (rx : Receiver)
  /-- errored frames + 1, and HUNTING -/
  | errored
  /-- a complete frame whose CHECK agrees: good frames + 1, and HUNTING -/
  | good (kind tag : Byte) (body : List Byte)
  deriving DecidableEq, Repr

/-- The bytes after START are complete: CHECK is compared with the CRC-16 of the bytes from LEN to the end of BODY. -/
def checkFrame (bytes : List Byte) : Received :=
  let covered := bytes.take (bytes.length - 2)
  match covered with
  | _ :: kind :: tag :: body =>
    if bytes.drop (bytes.length - 2) = halfBytes (crc16 covered) then .good kind tag body else .errored
  | _ => .errored

/-- IN_FRAME, holding `bytes` after START, takes one more byte without a framing error. -/
def frameByte (bytes : List Byte) (b : Byte) : Received :=
  match bytes with
  | [] => if 2 ≤ b.toNat ∧ b.toNat ≤ 242 then .stay (.inFrame [b] 0) else .errored
  | len :: _ =>
    let all := bytes ++ [b]
    if all.length = len.toNat + 3 then checkFrame all else .stay (.inFrame all 0)

/-- HUNTING takes a byte. -/
def huntByte (b : Byte) (framingError : Bool) : Received :=
  if b = 0xA5 ∧ framingError = false then .stay (.inFrame [] 0) else .stay .hunting

/-- A receiver takes a byte; a receiver in BREAK takes none. -/
def Receiver.takeByte (b : Byte) (framingError : Bool) : Receiver → Received
  | .hunting => huntByte b framingError
  | .inFrame bytes _ => if framingError then .errored else frameByte bytes b
  | .broken => .stay .broken

/-- The silence since the last byte of a frame has exceeded 20 ms. -/
def Receiver.timedOut : Receiver → Bool
  | .inFrame _ silence => decide (20 < silence)
  | _ => false

/-- A frame is abandoned and counted as errored. -/
def PortState.abandonFrame (ps : PortState) : PortState :=
  { ps with rx := .hunting, errored := satAdd 16 ps.errored 1 }

/-- INTER_BYTE_TIMEOUT: more than 20 ms pass without a byte. -/
def interByteTimeout (p : Port) (s : State) : State :=
  if s.phase ≠ .off ∧ (s.ports.get p).rx.timedOut then s.modPort p PortState.abandonFrame else s

/-- What a byte does to a port without a time-out: the port, and the frame to hand over, if one is complete. -/
def State.byteEffect (s : State) (p : Port) (b : Byte) (framingError : Bool) : Host.Outcome State Fault Refusal :=
  match (s.ports.get p).rx.takeByte b framingError with
  | .stay rx => .next (s.modPort p fun ps => { ps with rx := rx })
  | .errored => .next (s.modPort p PortState.abandonFrame)
  | .good kind tag body =>
    handFrame p kind tag body (s.modPort p fun ps => { ps with rx := .hunting, good := satAdd 16 ps.good 1 })

/-- BYTE_RECEIVED; a byte after a silence of more than 20 ms is taken under the HUNTING rows (R159). -/
def byteReceived (p : Port) (b : Byte) (framingError : Bool) (s : State) : Host.Outcome State Fault Refusal :=
  if s.phase = .off then .next s else (interByteTimeout p s).byteEffect p b framingError

/-- FRAME_DISCARDED: a good frame comes while the port is ANSWERING (R161). -/
def frameDiscarded (p : Port) (s : State) : State :=
  if s.hears p ∧ (s.ports.get p).request.isSome then s.modPort p fun ps => { ps with lost := satAdd 16 ps.lost 1 }
  else s

/-! ### The transmitter (R161, R176) -/

/-- A change of a PORT entry, once the response on port `p` has been sent in full or dropped (R158). -/
def PortChange.answered (p : Port) (c : PortChange) : PortChange := if c.sender = p then { c with due := true } else c

/-- What follows a response sent in full or dropped (R158, R180). Where two ports have sent a RESTART, the first of their
responses to be sent or dropped makes the start due (DESIGN CHOICE, log 23, unsafe). -/
def State.applyAfter (s : State) (p : Port) (r : Response) : State :=
  match r.after with
  | .nothing => s
  | .restart => { s with restartDue := true }
  | .port q => s.modPort q fun ps => { ps with changes := ps.changes.map (PortChange.answered p) }

/-- RESPONSE_SENT: the last byte of the response has been sent, and the request state is IDLE (R161). -/
def responseSent (p : Port) (s : State) : State :=
  match (s.ports.get p).tx with
  | some (.response r _) => (s.modPort p fun ps => { ps with tx := none, request := none }).applyAfter p r
  | _ => s

/-- The four conditions of R176, and a transmitter with no frame in progress. -/
def State.maySend (s : State) (p : Port) : Bool :=
  let ps := s.ports.get p
  s.phase == .ready && ps.request.isNone && ps.rx != .broken && ps.sending && ps.tx.isNone

/-- A notice begins to be sent. -/
def State.beginNotice (s : State) (p : Port) (n : Notice) : State :=
  s.modPort p fun ps => { ps with tx := some (.notice n (attention s p)) }

/-- NOTICE_SEND: the oldest urgent notice leaves its queue, or else the oldest routine one (R176). -/
def noticeSend (p : Port) (s : State) : State :=
  if s.maySend p then
    match (s.ports.get p).urgent, (s.ports.get p).routine with
    | n :: rest, _ => (s.modPort p fun ps => { ps with urgent := rest }).beginNotice p n
    | [], n :: rest => (s.modPort p fun ps => { ps with routine := rest }).beginNotice p n
    | [], [] => s
  else s

/-! ### Port breaks, port settings and the end of a notice (R158, R160, R163) -/

/-- What PORT_BREAK and a change of role both do: the queues are emptied, the bid is removed with the period worked
out again, and the report slot is freed if the port holds it (R17, R18, R172, R176). -/
def State.forgetParty (s : State) (p : Port) : State :=
  ((s.modPort p fun ps => { ps with urgent := [], routine := [], bid := none }).freeReportOf p).recomputePeriod

/-- The response that a break drops, and what follows its drop. -/
def State.dropResponse (s : State) (p : Port) : State :=
  let t := s.modPort p fun ps => { ps with request := none, tx := none }
  match (s.ports.get p).request with
  | some r => t.applyAfter p r
  | none => t

/-- PORT_BREAK (R160). The model holds no line level: after a start, which makes the receiver HUNTING, a line that is
still spacing takes a break again (DESIGN CHOICE, log 22, unsafe). -/
def portBreak (p : Port) (s : State) : State :=
  if s.hears p then ((s.modPort p fun ps => { ps with rx := .broken }).forgetParty p).dropResponse p else s

/-- BREAK_END: the line returns to the marking state (R160). -/
def breakEnd (p : Port) (s : State) : State :=
  if s.phase ≠ .off ∧ (s.ports.get p).rx = .broken then s.modPort p fun ps => { ps with rx := .hunting } else s

/-- A frame that the receiver is part-way through is abandoned without being counted (R158). -/
def Receiver.abandon : Receiver → Receiver
  | .inFrame _ _ => .hunting
  | rx => rx

/-- A change of role takes effect (R158). -/
def State.changeRole (s : State) (p : Port) (r : Role) : State :=
  if (s.ports.get p).role = r then s else (s.modPort p fun ps => { ps with role := r }).forgetParty p

/-- A change of baud takes effect (R158). -/
def State.changeBaud (s : State) (p : Port) (b : Baud) : State :=
  if (s.ports.get p).baud = b then s else s.modPort p fun ps => { ps with baud := b, rx := ps.rx.abandon }

/-- A change of a PORT entry takes effect (R158). -/
def State.takeChange (p : Port) (s : State) (c : PortChange) : State := (s.changeRole p c.role).changeBaud p c.baud

/-- PORT_SETTINGS_EFFECT: the response to a SETTINGS_PUT has been sent or dropped, and the port sends no frame. Changes
that have both behind them take effect in the order in which they were accepted (R158; log 12). -/
def portSettingsEffect (p : Port) (s : State) : State :=
  let ps := s.ports.get p
  if s.phase ≠ .off ∧ ps.tx = none ∧ ps.changes.any PortChange.due then
    (ps.changes.filter PortChange.due).foldl (State.takeChange p)
      (s.modPort p fun ps => { ps with changes := ps.changes.filter fun c => !c.due })
  else s

/-- NOTICE_FRAME_END: a notice has been sent. A change of PORT settings that waits for this instant takes effect (R158),
and then a response that waits for it begins (R163). -/
def noticeFrameEnd (p : Port) (s : State) : State :=
  match (s.ports.get p).tx with
  | some (.notice _ _) => (portSettingsEffect p (s.modPort p fun ps => { ps with tx := none })).beginResponse p
  | _ => s

def execUndefinedRequest (p : Port) (kind tag : Byte) (s : State) : Host.Outcome State Fault Refusal :=
  .next (undefinedRequest p kind tag s)

def execByteReceived (p : Port) (b : Byte) (framingError : Bool) (s : State) : Host.Outcome State Fault Refusal :=
  byteReceived p b framingError s

def execInterByteTimeout (p : Port) (s : State) : Host.Outcome State Fault Refusal := .next (interByteTimeout p s)

def execFrameDiscarded (p : Port) (s : State) : Host.Outcome State Fault Refusal := .next (frameDiscarded p s)

def execResponseSent (p : Port) (s : State) : Host.Outcome State Fault Refusal := .next (responseSent p s)

def execPortSettingsEffect (p : Port) (s : State) : Host.Outcome State Fault Refusal := .next (portSettingsEffect p s)

def execNoticeSend (p : Port) (s : State) : Host.Outcome State Fault Refusal := .next (noticeSend p s)

def execPortBreak (p : Port) (s : State) : Host.Outcome State Fault Refusal := .next (portBreak p s)

def execBreakEnd (p : Port) (s : State) : Host.Outcome State Fault Refusal := .next (breakEnd p s)

def execNoticeFrameEnd (p : Port) (s : State) : Host.Outcome State Fault Refusal := .next (noticeFrameEnd p s)

end Sys2Proof.Machine
end

