-- ==== Sys2Proof/Machine/Dispatch.lean ====
section
/-!
DEFINITION. The meaning of each command, one arm per row of the opcode table.
-/
namespace Sys2Proof.Machine

/-- The effect of a command on everything but the queue. -/
def exec (i : Instr) (s : State) : Host.Outcome State Fault Refusal :=
  match i with
  | .portStatus p tag => Sys2Proof.Machine.execPortStatus p tag s
  | .countersClear p tag => Sys2Proof.Machine.execCountersClear p tag s
  | .noticeEnable p tag value => Sys2Proof.Machine.execNoticeEnable p tag value s
  | .scanBid p tag seconds => Sys2Proof.Machine.execScanBid p tag seconds s
  | .clockGet p tag => Sys2Proof.Machine.execClockGet p tag s
  | .clockSet p tag seconds => Sys2Proof.Machine.execClockSet p tag seconds s
  | .settingsGet p tag group index => Sys2Proof.Machine.execSettingsGet p tag group index s
  | .settingsPut p tag group index entry => Sys2Proof.Machine.execSettingsPut p tag group index entry s
  | .storeWriteCompletion => Sys2Proof.Machine.execStoreWriteCompletion s
  | .restart p tag => Sys2Proof.Machine.execRestart p tag s
  | .restartStart => Sys2Proof.Machine.execRestartStart s
  | .powerUp => Sys2Proof.Machine.execPowerUp s
  | .rstnReset => Sys2Proof.Machine.execRstnReset s
  | .mainPowerLoss => Sys2Proof.Machine.execMainPowerLoss s
  | .startReady => Sys2Proof.Machine.execStartReady s
  | .compartmentStatus p tag compartment => Sys2Proof.Machine.execCompartmentStatus p tag compartment s
  | .probeStatus p tag probe => Sys2Proof.Machine.execProbeStatus p tag probe s
  | .probeClear p tag probe => Sys2Proof.Machine.execProbeClear p tag probe s
  | .watchRearm p tag compartment => Sys2Proof.Machine.execWatchRearm p tag compartment s
  | .doorStatus p tag door => Sys2Proof.Machine.execDoorStatus p tag door s
  | .doorRearm p tag door => Sys2Proof.Machine.execDoorRearm p tag door s
  | .defrostStatus p tag compartment => Sys2Proof.Machine.execDefrostStatus p tag compartment s
  | .defrostAsk p tag compartment => Sys2Proof.Machine.execDefrostAsk p tag compartment s
  | .defrostEnd p tag compartment => Sys2Proof.Machine.execDefrostEnd p tag compartment s
  | .refillExpiry c => Sys2Proof.Machine.execRefillExpiry c s
  | .lotLoad p tag lot cls compartment quantity => Sys2Proof.Machine.execLotLoad p tag lot cls compartment quantity s
  | .lotMove p tag lot compartment => Sys2Proof.Machine.execLotMove p tag lot compartment s
  | .lotWriteOff p tag lot quantity => Sys2Proof.Machine.execLotWriteOff p tag lot quantity s
  | .lotRetire p tag lot force => Sys2Proof.Machine.execLotRetire p tag lot force s
  | .lotStatus p tag lot part => Sys2Proof.Machine.execLotStatus p tag lot part s
  | .lotList p tag first => Sys2Proof.Machine.execLotList p tag first s
  | .reportLot p tag lot page => Sys2Proof.Machine.execReportLot p tag lot page s
  | .compositionCompletion => Sys2Proof.Machine.execCompositionCompletion s
  | .discardTimerExpiry => Sys2Proof.Machine.execDiscardTimerExpiry s
  | .routeBegin p tag number => Sys2Proof.Machine.execRouteBegin p tag number s
  | .stopLoad p tag stop consignee mask budget limit planned => Sys2Proof.Machine.execStopLoad p tag stop consignee mask budget limit planned s
  | .dispatch p tag => Sys2Proof.Machine.execDispatch p tag s
  | .vanReturn p tag => Sys2Proof.Machine.execVanReturn p tag s
  | .stopOpen p tag stop => Sys2Proof.Machine.execStopOpen p tag stop s
  | .stopClose p tag => Sys2Proof.Machine.execStopClose p tag s
  | .stopStatus p tag stop => Sys2Proof.Machine.execStopStatus p tag stop s
  | .stopTimerExpiry => Sys2Proof.Machine.execStopTimerExpiry s
  | .handoffOffer p tag lot quantity => Sys2Proof.Machine.execHandoffOffer p tag lot quantity s
  | .handoffAccept p tag index code accepted condition => Sys2Proof.Machine.execHandoffAccept p tag index code accepted condition s
  | .handoffCopied p tag index value => Sys2Proof.Machine.execHandoffCopied p tag index value s
  | .handoffWithdraw p tag index => Sys2Proof.Machine.execHandoffWithdraw p tag index s
  | .handoffStatus p tag index => Sys2Proof.Machine.execHandoffStatus p tag index s
  | .ackTimerExpiry h => Sys2Proof.Machine.execAckTimerExpiry h s
  | .claimLodge p tag index code quantity => Sys2Proof.Machine.execClaimLodge p tag index code quantity s
  | .claimWithdraw p tag number => Sys2Proof.Machine.execClaimWithdraw p tag number s
  | .claimFetch p tag number => Sys2Proof.Machine.execClaimFetch p tag number s
  | .claimClear p tag number => Sys2Proof.Machine.execClaimClear p tag number s
  | .claimList p tag => Sys2Proof.Machine.execClaimList p tag s
  | .assessmentCompletion => Sys2Proof.Machine.execAssessmentCompletion s
  | .scanStart => Sys2Proof.Machine.execScanStart s
  | .probeReadCompletion probe answer => Sys2Proof.Machine.execProbeReadCompletion probe answer s
  | .probeInvalidAnswer probe => Sys2Proof.Machine.execProbeInvalidAnswer probe s
  | .readTimeout probe => Sys2Proof.Machine.execReadTimeout probe s
  | .scanCompletion watchFirst => Sys2Proof.Machine.execScanCompletion watchFirst s
  | .doorInputLevel door high => Sys2Proof.Machine.execDoorInputLevel door high s
  | .acceptedChange door => Sys2Proof.Machine.execAcceptedChange door s
  | .heldLimitReached door => Sys2Proof.Machine.execHeldLimitReached door s
  | .stopDoorSecond door => Sys2Proof.Machine.execStopDoorSecond door s
  | .byteReceived p value framingError => Sys2Proof.Machine.execByteReceived p value framingError s
  | .interByteTimeout p => Sys2Proof.Machine.execInterByteTimeout p s
  | .frameDiscarded p => Sys2Proof.Machine.execFrameDiscarded p s
  | .undefinedRequest p kind tag => Sys2Proof.Machine.execUndefinedRequest p kind tag s
  | .responseSent p => Sys2Proof.Machine.execResponseSent p s
  | .portSettingsEffect p => Sys2Proof.Machine.execPortSettingsEffect p s
  | .noticeSend p => Sys2Proof.Machine.execNoticeSend p s
  | .portBreak p => Sys2Proof.Machine.execPortBreak p s
  | .breakEnd p => Sys2Proof.Machine.execBreakEnd p s
  | .secondsCountAdvance => Sys2Proof.Machine.execSecondsCountAdvance s
  | .backupSupplyLoss => Sys2Proof.Machine.execBackupSupplyLoss s
  | .noticeFrameEnd p => Sys2Proof.Machine.execNoticeFrameEnd p s

end Sys2Proof.Machine
end

