-- ==== Sys2Proof/WellFormed.lean ====
section
/-!
DEFINITION. Which commands a link can carry. The fields of a request have the widths of R183 by their types; three
checks are left: the lengths of the two bodies of varying length (R182: a BODY has at most 240 bytes), and that an
undefined request has a KIND that the K46 does not define.
-/
namespace Sys2Proof

/-- A command that can reach the K46. -/
def Instr.wellFormed : Instr → Bool
  | .settingsPut _ _ _ _ entry => entry.length ≤ 238
  | .stopLoad _ _ _ _ _ _ _ planned => planned.length ≤ 37
  | .undefinedRequest _ kind _ => !definedKind kind
  | _ => true

end Sys2Proof
end

