-- ==== Sys2Proof/Safety.lean ====
section
/-!
DEFINITION. What a safe run is: the laws that the spec gives for every reachable state, as checks on one state, and
the words in which the statements speak of requests and of bytes on a line.
-/
namespace Sys2Proof.Machine

/-! ### Requests and bytes -/

/-- A request of this KIND that arrives now on port `p` is taken and reaches its own rule (R161, R162, R164). -/
abbrev State.takes (s : State) (p : Port) (kind : Byte) : Prop :=
  s.phase = .ready ∧ (s.ports.get p).rx ≠ .broken ∧ (s.ports.get p).request = none ∧
    hasRight kind (s.ports.get p).role = true

/-- The state after a request has been taken and answered with this status and body, `t` being the state that the
request's own rule leaves. -/
def answered (p : Port) (kind tag : Byte) (status : Status) (body : List Byte) (t : State) : State :=
  State.respond p kind (kind + 0x80) tag { status := status, body := body, after := .nothing, state := t }

/-- The status of the response that port `p` is answering with. -/
def State.statusOf (s : State) (p : Port) : Option Status := (s.ports.get p).request.map Response.status

/-- A request given in state `s` is answered with this status. -/
def answersWith (c : Instr) (s : State) (p : Port) (status : Status) : Prop :=
  ∃ t, exec c s = .next t ∧ t.statusOf p = some status

/-- Two states agree but for port `p`'s request, transmitter and refusal record: what a refused request may change
(R162, R165). -/
def sameButRefusal (p : Port) (s t : State) : Prop :=
  t = { s with ports := t.ports } ∧ (∀ q, q ≠ p → t.ports.get q = s.ports.get q) ∧
    t.ports.get p = { s.ports.get p with
      request := (t.ports.get p).request, tx := (t.ports.get p).tx,
      refusal := (t.ports.get p).refusal, refusals := (t.ports.get p).refusals }

/-- State `t` has the scanner of `s` with the period worked out again: a due time later than a changed period allows
moves, any other stays (R18). -/
def periodWorkedOut (s t : State) : Prop :=
  t.scanner = { s.scanner with
    period := t.wantedPeriod,
    nextDue := if t.wantedPeriod = s.scanner.period then s.scanner.nextDue
      else min s.scanner.nextDue (s.scanner.elapsed + t.wantedPeriod) }

/-- The bytes of a line arrive one after another, without framing errors. -/
def State.receiveAll (p : Port) : List Byte → State → Host.Outcome State Fault Refusal
  | [], s => .next s
  | b :: bs, s =>
    match exec (.byteReceived p b false) s with
    | .next t => State.receiveAll p bs t
    | .fault r => .fault r
    | .refused r => .refused r

/-! ### Time (log 7) -/

/-- Of state `s`, `n` milliseconds have passed and left `t`, and with them, where `second` is set, the seconds count has
advanced by one. On main power the milliseconds count a candidate level, the open-time total and, while a stop is OPEN,
the stop accumulator of a door that stands open, the silence within a frame and the age of a scan (R4, R38, R43, R47,
R159). A second counts the seconds count (R181), on main power the scanner's elapsed seconds (which do not wrap, log 19)
and the held timers (R18, R40), and while READY the refill, stop, ack and discard timers (R54, R113, R127, R171). -/
def timePassed (n : Nat) (second : Bool) (s t : State) : Prop :=
  t = { s with
    seconds := if second = true then s.seconds + 1 else s.seconds
    subMs := if second = true then 0 else s.subMs + n
    doors := t.doors, ports := t.ports, scanner := t.scanner, defrosts := t.defrosts, stops := t.stops
    handoffs := t.handoffs, report := t.report } ∧
  (s.phase = .off → t.doors = s.doors ∧ t.ports = s.ports ∧ t.scanner = s.scanner) ∧
  (s.phase ≠ .off →
    (∀ c : Comp,
      let d := s.doors.get c
      let stands := d.state = .opened ∨ d.state = .held
      let stopIsOpen := s.route.openStop.any (fun m => (s.stops.get m).isSome) = true
      t.doors.get c = { d with
        candidate := d.candidate.map (· + n)
        openTotal := if stands then d.openTotal + BitVec.ofNat 32 n else d.openTotal
        stopAcc := if stands ∧ stopIsOpen then d.stopAcc + n else d.stopAcc
        period := if second = true ∧ d.state = .opened then d.period.map fun x => { x with held := x.held + 1 }
          else d.period }) ∧
    (∀ p : Port, t.ports.get p = { s.ports.get p with
      rx := match (s.ports.get p).rx with
        | .inFrame bytes silence => .inFrame bytes (silence + n)
        | rx => rx }) ∧
    t.scanner = { s.scanner with
      elapsed := if second = true then s.scanner.elapsed + 1 else s.scanner.elapsed
      scan := s.scanner.scan.map fun x => { x with age := x.age + n } }) ∧
  (if second = true ∧ s.phase = .ready then
    (∀ c : Comp, t.defrosts.get c = { s.defrosts.get c with refill := (s.defrosts.get c).refill + 1 }) ∧
    (∀ m : StopNo, t.stops.get m = (s.stops.get m).map fun st => { st with timer := st.timer.map (· - 1) }) ∧
    (∀ j : HIndex, t.handoffs.get j = (s.handoffs.get j).map fun h => { h with ack := h.ack.map (· - 1) }) ∧
    t.report = s.report.map fun r => { r with timer := r.timer.map (· - 1) }
  else t.defrosts = s.defrosts ∧ t.stops = s.stops ∧ t.handoffs = s.handoffs ∧ t.report = s.report)

/-! ### Cartons on offer -/

/-- The cartons of the lot in slot `i` that its OFFERED handoffs among `js` hold. -/
def State.cartonsOffered (s : State) (js : List HIndex) (i : Slot) : Nat :=
  ((List.finRange 128).map fun j => match s.handoffs.get j with
    | some h => if j ∈ js ∧ h.slot = i ∧ h.state = .offered then h.q else 0
    | none => 0).sum

/-- `n` cartons on offer come back on board; where fewer are on offer, which no run shows, those (log 15). -/
def Quantities.backOnBoard (n : Nat) (x : Quantities) : Quantities :=
  { x with offered := x.offered - min n x.offered, onBoard := x.onBoard + min n x.offered }

/-! ### Starts -/

/-- A start of this cause has begun in state `s` and left `t`: the settings are loaded, the ports are set from them,
and what no start keeps is set afresh; the retained memory is as it was (R20, R51, R64, R86, R156, R173, R180). -/
def startBegun (cause : StartCause) (s t : State) : Prop :=
  let settings := if s.store.valid then s.store.contents else Settings.factory
  t = { s with
    phase := .starting cause, settings := settings, defaulted := !s.store.valid, storeWrite := false,
    restartTaken := false, restartDue := false, assessor := none, report := none, scanner := t.scanner,
    probes := t.probes, comps := t.comps, doors := t.doors, defrosts := t.defrosts, bases := t.bases,
    ports := t.ports } ∧
  t.scanner.scan = none ∧ t.scanner.lastStart = none ∧ t.scanner.period = settings.general.defaultPeriod ∧
  t.scanner.elapsed = s.scanner.elapsed ∧
  (∀ p : Port, t.ports.get p = PortState.fresh (settings.ports.get p)) ∧
  (∀ i : Probe, t.probes.get i = { accepted := none, jumped := none, ring := [], latch := (s.probes.get i).latch }) ∧
  (∀ c : Comp, t.comps.get c = { lastLive := none, noLive := 0, latest := none } ∧
    t.doors.get c = Door.fresh (s.doors.get c).high ∧
    t.defrosts.get c =
      { pool := (s.defrosts.get c).pool, refill := 0, state := .idle, record := none, lastAsk := none } ∧
    t.bases.get c = { base := (s.bases.get c).base, mark := 0, last := none })

/-! ### Layouts -/

/-- The encodings of R182, most significant byte first, with its presence flags and entry counts. -/
def fieldLayouts : Prop :=
  (∀ n : Nat, u8 n = [BitVec.ofNat 8 n] ∧ u16 n = [BitVec.ofNat 8 (n / 2 ^ 8), BitVec.ofNat 8 n] ∧
    u32 n = [BitVec.ofNat 8 (n / 2 ^ 24), BitVec.ofNat 8 (n / 2 ^ 16), BitVec.ofNat 8 (n / 2 ^ 8), BitVec.ofNat 8 n]) ∧
  (∀ x : Half, halfBytes x = u16 x.toNat) ∧ (∀ x : Word, wordBytes x = u32 x.toNat ∧ timeBytes x = u32 x.toNat) ∧
  (∀ t : Int, t16 t = u16 (t % 65536).toNat ∧ tempBytes (some t) = t16 t) ∧ tempBytes none = [0x80, 0x00] ∧
  (∀ d : Nat, stepLen (some d) = u16 d) ∧ stepLen none = [0, 0] ∧ (∀ b : Bool, flag b = [if b then 1 else 0]) ∧
  ∀ (α : Type) (f : α → List Byte) (n : Nat) (x : α) (xs : List α),
    opt n f (some x) = 1 :: f x ∧ opt n f none = 0 :: List.replicate n 0 ∧ counted f xs = u8 xs.length ++ xs.flatMap f

/-- The codes of enumerated values count from 0 in the order of R182's table; the STATUS byte takes its values from the
table after it. -/
def codeLayouts : Prop :=
  [Source.liveProduct, .liveAir, .held, .blind, .noSource].map Source.code = [0, 1, 2, 3, 4] ∧
  [Quality.range, .fault, .silent, .jump, .confirmed, .ok].map Quality.code = [0, 1, 2, 3, 4, 5] ∧
  [ProbeRole.air, .product].map ProbeRole.code = [0, 1] ∧
  [WatchState.normal, .suspect, .excursion, .recovering].map WatchState.code = [0, 1, 2, 3] ∧
  [Side.high, .low].map Side.code = [0, 1] ∧ [NoticeMode.every, .firstOnly].map NoticeMode.code = [0, 1] ∧
  [Polarity.openHigh, .openLow].map Polarity.code = [0, 1] ∧
  [DoorState.unsettled, .closed, .opened, .held].map DoorState.code = [0, 1, 2, 3] ∧
  [OpeningKind.depot, .scheduled, .unscheduled].map OpeningKind.code = [0, 1, 2] ∧
  [Cause.change, .rearm].map Cause.code = [0, 1] ∧
  [DefrostState.idle, .active, .overrun].map DefrostState.code = [0, 1, 2] ∧
  [DeferReason.disabled, .defrosting, .door, .watch, .pool, .offer].map DeferReason.code = [0, 1, 2, 3, 4, 5] ∧
  [LotState.stowed, .onBoard, .depleted, .returned].map LotState.code = [0, 1, 2, 3] ∧
  [RouteState.noRoute, .loading, .dispatched, .returned].map RouteState.code = [0, 1, 2, 3] ∧
  [StopState.planned, .opened, .closed, .skipped].map StopState.code = [0, 1, 2, 3] ∧
  [HandoffState.offered, .proofReady, .settled, .lapsed, .withdrawn, .refused].map HandoffState.code =
    [0, 1, 2, 3, 4, 5] ∧
  [Condition.good, .noted].map Condition.code = [0, 1] ∧
  [EReason.idMismatch, .copyMismatch].map EReason.code = [0, 1] ∧
  [ClaimState.lodged, .assessing, .decided, .withdrawn].map ClaimState.code = [0, 1, 2, 3] ∧
  [Verdict.rejected, .upheldCarrier, .upheldDepot, .referred].map Verdict.code = [0, 1, 2, 3] ∧
  [Referral.identity, .copy, .record].map Referral.code = [0, 1, 2] ∧
  [Role.cab, .dock, .cooling, .noRole].map Role.code = [0, 1, 2, 3] ∧
  [Baud.b9600, .b19200, .b57600, .b115200].map Baud.code = [0, 1, 2, 3] ∧
  [Status.ok, .pending, .deferred, .busy, .notReady, .noRight, .badRequest, .range, .state, .full, .unknown,
    .duplicate, .tooLate, .inUse, .doorOpen, .clockUnset, .windowOpen, .claimant].map Status.code =
    [0x00, 0x01, 0x02, 0x10, 0x11, 0x12, 0x13, 0x14, 0x15, 0x16, 0x17, 0x18, 0x19, 0x1A, 0x1B, 0x1C, 0x1D, 0x1E]

/-- The records of R184, and the other records that response bodies carry, with the fields in the order in which their
rules list them (log 6 says which points of these the model settles). -/
def recordLayouts : Prop :=
  (∀ a : Account, a.bytes =
    u32 a.dose ++ u32 a.waived ++ [if a.warm then (if a.saturated then 3 else 2) else if a.saturated then 1 else 0]
      ++ u8 a.shocks ++ u32 a.unverified ++ u32 a.airSecs ++ u32 a.doorSecs ++ tempBytes a.peak ++ u8 a.excursions
      ++ u8 a.openings ++ u8 a.gaps) ∧
  (∀ x : Proof, ∃ flags : Byte, x.bytes =
    u8 x.index.val ++ halfBytes x.route ++ u8 x.stop.val ++ wordBytes x.lot ++ u8 x.cls.val ++ u16 x.accepted
      ++ u16 x.refused ++ wordBytes x.code ++ timeBytes x.acceptTime ++ u16 x.dm ++ u16 x.carrierDm ++ u8 x.shocks
      ++ u8 x.excursions ++ u32 x.unverified ++ tempBytes x.peak ++ u8 x.cond.code ++ [flags] ∧
    flags.getLsbD 7 = x.a ∧ flags.getLsbD 5 = x.e.isSome ∧ flags.getLsbD 4 = (x.e == some .copyMismatch) ∧
    flags.getLsbD 3 = x.unplanned ∧ flags &&& 0x47 = 0) ∧
  (∀ r : DispatchReceipt, r.bytes = timeBytes r.time ++ halfBytes r.route ++ r.snap.bytes) ∧
  (∀ r : ReturnReceipt, r.bytes = timeBytes r.time ++ u16 r.quantity ++ r.snap.bytes) ∧
  (∀ x : Quantities, x.bytes =
    u16 x.loaded ++ u16 x.onBoard ++ u16 x.offered ++ u16 x.delivered ++ u16 x.returned ++ u16 x.writtenOff) ∧
  (∀ r : Reading, r.bytes =
    u8 r.comp.val ++ timeBytes r.time ++ stepLen r.step ++ tempBytes r.temp ++ u8 r.source.code) ∧
  (∀ e : Excursion, e.bytes =
    timeBytes e.start ++ u8 e.side.code ++ t16 e.peak ++ u16 e.count ++ opt 4 timeBytes e.finish ++ flag e.noticed) ∧
  DoorLatch.bytes none = List.replicate 11 0 ∧
  (∀ l : DoorLatch, DoorLatch.bytes (some l) =
    [1, 1] ++ flag l.isOpen ++ timeBytes l.time ++ opt 1 (fun k : OpeningKind => u8 k.code) l.kind ++ u8 l.cause.code
      ++ u8 l.unreported) ∧
  (∀ r : DefrostRecord, r.bytes =
    timeBytes r.grant ++ u16 r.poolAtGrant ++ u32 r.waivedSecs ++ u16 r.waivedSteps ++ u16 r.chargedSteps
      ++ opt 4 timeBytes r.overrunAt) ∧
  (∀ a : Ask, a.bytes =
    timeBytes a.time ++ flag a.deferred.isSome ++ opt 1 (fun r : DeferReason => u8 r.code) a.deferred) ∧
  (∀ r : StepRecord, r.bytes =
    timeBytes r.time ++ u16 r.d ++ u16 r.o ++ u8 r.source.code ++ tempBytes r.temp ++ flag (!r.waived) ++ u8 r.lots) ∧
  (∀ x : Sample, x.bytes = timeBytes x.time ++ tempBytes x.value ++ u8 x.quality.code) ∧
  FaultLatch.bytes none = List.replicate 8 0 ∧
  (∀ l : FaultLatch, FaultLatch.bytes (some l) = [1, 1] ++ u8 l.quality.code ++ timeBytes l.time ++ u8 l.count) ∧
  (∀ (i : Slot) (l : Lot), l.part0 i =
      u8 i.val ++ wordBytes l.number ++ u8 l.cls.val ++ u8 l.comp.val ++ u8 l.state.code ++ flag l.joined ++ l.qty.bytes
        ++ u8 l.openClaims ++ l.acct.bytes ++ u32 (l.acct.dose / 960) ++ u32 (l.acct.waived / 960) ∧
    l.part1 = opt 33 DispatchReceipt.bytes l.dispatched ++ opt 33 ReturnReceipt.bytes l.returned ∧
    lotEntry (i, l) = u8 i.val ++ wordBytes l.number ++ u8 l.cls.val ++ u8 l.comp.val ++ u8 l.state.code
      ++ u16 l.qty.onBoard ++ u16 l.qty.offered) ∧
  (∀ (s : State) (j : HIndex) (h : Handoff), s.handoffs.get j = some h →
    s.listedHandoff j = u8 j.val ++ u8 h.stop.val ++ u8 h.state.code ++ u16 h.q) ∧
  (∀ c : Claim, c.entry =
    u16 c.number ++ u8 c.handoff.val ++ wordBytes c.lot ++ u8 c.state.code
      ++ opt 1 (fun v : Verdict => u8 v.code) c.verdict ++ flag c.fetched) ∧
  (∀ (c : Claim) (v : Verdict) (x : Figures) (t : Time),
    c.verdict = some v → c.figures = some x → c.decideTime = some t → c.fetchBody =
      u16 c.number ++ u8 c.handoff.val ++ wordBytes c.lot ++ wordBytes c.claimant ++ u16 c.quantity
        ++ timeBytes c.lodgeTime ++ timeBytes t ++ u8 v.code ++ opt 1 (fun r : Referral => u8 r.code) c.reason
        ++ u32 x.totalDm ++ u32 x.depotDm ++ u32 x.carrierDm ++ u8 x.shocks ++ u32 x.unverified ++ flag c.fetched)

/-- The report pages of R184: the page header, page 0, and the handoff summaries of the other pages. -/
def pageLayouts : Prop :=
  (∀ (r : Report) (n : Nat),
    let header := wordBytes r.lot ++ timeBytes r.time ++ u8 n ++ u8 (1 + (r.handoffs.length + 3) / 4)
    let l := r.copy
    r.page n = header ++
      if n = 0 then
        u8 r.slot.val ++ u8 l.cls.val ++ u8 l.comp.val ++ u8 l.state.code ++ flag l.joined ++ l.qty.bytes
          ++ u8 l.openClaims ++ l.acct.bytes ++ opt 33 DispatchReceipt.bytes l.dispatched
          ++ opt 33 ReturnReceipt.bytes l.returned
      else counted Handoff.summary ((r.handoffs.drop (4 * (n - 1))).take 4)) ∧
  (∀ (j : HIndex) (h : Handoff), ∃ flags : Byte,
    let finish := match h.state with
      | .settled => h.settleTime
      | .lapsed => h.endTime
      | .withdrawn => h.endTime
      | _ => none
    Handoff.summary (j, h) =
      u8 j.val ++ u8 h.state.code ++ u8 h.stop.val ++ u16 h.q ++ u16 h.accepted ++ [flags]
        ++ wordBytes (h.code.getD 0) ++ timeBytes h.offerTime ++ timeBytes (h.acceptTime.getD 0)
        ++ timeBytes (finish.getD 0) ++ halfBytes ((h.proof.map Prod.snd).getD 0)
        ++ (match h.snap with
          | some a => a.bytes
          | none => List.replicate 27 0)
        ++ halfBytes h.route ∧
    flags.getLsbD 7 = h.a ∧ flags.getLsbD 6 = h.c ∧ flags.getLsbD 5 = h.e.isSome ∧
    flags.getLsbD 4 = (h.e == some .copyMismatch) ∧ flags.getLsbD 3 = h.unplanned ∧
    flags.getLsbD 2 = (h.cond == some .noted) ∧ flags.getLsbD 1 = h.acceptTime.isSome ∧
    flags.getLsbD 0 = h.proof.isSome)

/-- The CRC-16 of R182 taken bit by bit: polynomial x^16 + x^12 + x^5 + 1, the register from 0xFFFF, each byte most
significant bit first, no bit order reversed and no inversion. -/
def serialCrc (bytes : List Byte) : Half :=
  (bytes.flatMap fun b => [7, 6, 5, 4, 3, 2, 1, 0].map b.getLsbD).foldl
    (fun r bit => if (r.msb != bit) = true then (r <<< 1) ^^^ 0x1021 else r <<< 1) 0xFFFF

/-- A frame of R182: START, LEN, header with BODY, CHECK. -/
def framed (content : List Byte) : List Byte :=
  let covered := u8 content.length ++ content
  [0xA5] ++ covered ++ halfBytes (crc16 covered)

/-- The codes and bodies of the notices (R183). -/
def noticeLayouts : Prop :=
  let kindOf (k : Option OpeningKind) : Byte := match k with
    | some k => BitVec.ofNat 8 k.code
    | none => 0xFF
  ∀ b : NoticeBody, (b.code, b.bytes) = match b with
    | .excursionStart c start side t => (0x01, u8 c.val ++ timeBytes start ++ u8 side.code ++ t16 t)
    | .excursionEnd c start finish side peak n =>
      (0x02, u8 c.val ++ timeBytes start ++ timeBytes finish ++ u8 side.code ++ t16 peak ++ u16 n)
    | .doorHeld d start kind => (0x03, u8 d.val ++ timeBytes start ++ [kindOf kind])
    | .doorOver stop budget sum => (0x04, u8 stop.val ++ u16 budget ++ u32 sum)
    | .unscheduledOpening d t lots => (0x05, u8 d.val ++ timeBytes t ++ u8 lots)
    | .defrostOverrun c t d pool grant w =>
      (0x06, u8 c.val ++ timeBytes t ++ u16 d ++ u16 pool ++ timeBytes grant ++ u32 w)
    | .stopLate stop t limit => (0x07, u8 stop.val ++ timeBytes t ++ u16 limit)
    | .doorChange d isOpen t kind cause =>
      (0x08, u8 d.val ++ flag isOpen ++ timeBytes t ++ [kindOf kind] ++ u8 cause.code)
    | .probeFault i q t => (0x09, u8 i.val ++ u8 q.code ++ timeBytes t)
    | .proofReady j lot check => (0x0A, u8 j.val ++ wordBytes lot ++ halfBytes check)
    | .handoffLapsed j lot stop q => (0x0B, u8 j.val ++ wordBytes lot ++ u8 stop.val ++ u16 q)
    | .claimDecided n j lot v r => (0x0C, u16 n ++ u8 j.val ++ wordBytes lot ++ u8 v.code ++ (match r with
      | some r => u8 r.code
      | none => [0xFF]))
    | .reportReady lot pages => (0x0D, wordBytes lot ++ u8 pages)
    | .scanSummary rs => (0x0E, u8 rs.length ++ rs.flatMap Reading.bytes)

/-- The settings entries of section 12.4, in the order of its fields. -/
def entryLayouts : Prop :=
  (∀ g : General, g.bytes = u8 g.scanFloor ++ u16 g.defaultPeriod ++ u16 g.handoffWindow ++ u8 g.discardTime) ∧
  (∀ c : PortCfg, c.bytes = u8 c.role.code ++ u8 c.baud.code) ∧
  (∀ c : ProbeCfg, c.bytes =
    flag c.enabled ++ u8 c.comp.val ++ u8 c.role.code ++ [BitVec.ofInt 8 c.trim] ++ u16 c.jump) ∧
  (∀ c : DoorCfg, c.bytes = u8 c.polarity.code ++ u16 c.debounce ++ u16 c.heldLimit) ∧
  (∀ c : CompCfg, c.bytes =
    flag c.enabled ++ u8 c.holdLimit ++ t16 c.low ++ t16 c.high ++ u8 c.trigger ++ u8 c.clear ++ u8 c.mode.code
      ++ u16 c.poolMax ++ u16 c.refillAmount ++ u32 c.refillInterval ++ u16 c.minGrant) ∧
  (∀ c : ClassCfg, c.bytes =
    t16 c.limit ++ t16 c.b1 ++ t16 c.b2 ++ t16 c.floor ++ t16 c.shock ++ u16 c.doseLimit ++ u8 c.shockLimit
      ++ u32 c.unverifiedLimit ++ u16 c.window)

/-! ### The settings (R1, R22, R37, R53, R127, R158, R171, R178) -/

def General.inRange (g : General) : Bool :=
  decide (2 ≤ g.scanFloor ∧ g.scanFloor ≤ 60 ∧ 2 ≤ g.defaultPeriod ∧ g.defaultPeriod ≤ 256 ∧
    g.scanFloor ≤ g.defaultPeriod ∧ 30 ≤ g.handoffWindow ∧ g.handoffWindow ≤ 3600 ∧ 5 ≤ g.discardTime ∧
    g.discardTime ≤ 255)

def ProbeCfg.inRange (c : ProbeCfg) : Bool := decide (-32 ≤ c.trim ∧ c.trim ≤ 31 ∧ c.jump ≤ 640)

def DoorCfg.inRange (c : DoorCfg) : Bool :=
  decide (20 ≤ c.debounce ∧ c.debounce ≤ 1000 ∧ 10 ≤ c.heldLimit ∧ c.heldLimit ≤ 3600)

def CompCfg.inRange (c : CompCfg) : Bool :=
  decide (1 ≤ c.holdLimit ∧ c.holdLimit ≤ 15 ∧ -880 ≤ c.low ∧ c.low < c.high ∧ c.high ≤ 2000 ∧ 1 ≤ c.trigger ∧
    c.trigger ≤ 255 ∧ 1 ≤ c.clear ∧ c.clear ≤ 255 ∧ c.poolMax ≤ 3600 ∧ c.refillAmount ≤ 3600 ∧
    60 ≤ c.refillInterval ∧ c.refillInterval ≤ 86400 ∧ 1 ≤ c.minGrant ∧ c.minGrant ≤ 3600)

def ClassCfg.inRange (c : ClassCfg) : Bool :=
  decide (-880 ≤ c.limit ∧ c.limit ≤ 1999 ∧ 1 ≤ c.b1 ∧ c.b1 ≤ c.b2 ∧ c.b2 ≤ 2880 ∧ 0 ≤ c.floor ∧ c.floor ≤ 480 ∧
    c.limit < c.shock ∧ c.shock ≤ 2000 ∧ 1 ≤ c.doseLimit ∧ c.doseLimit ≤ 65535 ∧ 1 ≤ c.shockLimit ∧
    c.shockLimit ≤ 255 ∧ c.unverifiedLimit ≤ 86400 ∧ 1 ≤ c.window ∧ c.window ≤ 720)

/-- Every field of the settings lies in its range, every relation holds, and a port keeps the role DOCK. -/
def Settings.inRange (st : Settings) : Bool :=
  st.general.inRange && st.probes.toList.all ProbeCfg.inRange && st.doors.toList.all DoorCfg.inRange
    && st.comps.toList.all CompCfg.inRange && st.classes.toList.all ClassCfg.inRange
    && st.ports.toList.any fun c => c.role == .dock

/-! ### The laws -/

/-- The law of the settings and of the scan period (R18): both copies are in range, and the period in force is the
lowest clamped bid, or the default where there is no bid. -/
abbrev State.periodLaw (s : State) : Prop :=
  s.settings.inRange = true ∧ s.store.contents.inRange = true ∧
  s.settings.general.scanFloor ≤ s.scanner.period ∧ s.scanner.period ≤ 256 ∧
  (∀ p : Port, (s.ports.get p).bid.all (fun b => s.scanner.period ≤ clampBid s.settings.general b) = true) ∧
  ((∃ p : Port, (s.ports.get p).bid.any (fun b => clampBid s.settings.general b = s.scanner.period) = true) ∨
    ((∀ p : Port, (s.ports.get p).bid = none) ∧ s.scanner.period = s.settings.general.defaultPeriod))

/-- No cartons appear or vanish within a lot (R90). -/
def Quantities.balanced (x : Quantities) : Bool :=
  x.loaded == x.onBoard + x.offered + x.delivered + x.returned + x.writtenOff

/-- The law of the lot table (R88, R90): every lot's quantities balance and are at most 65535, its number is not 0,
and no two slots hold the same number. -/
abbrev State.lotLaw (s : State) : Prop :=
  (∀ i : Slot, (s.lots.get i).all
    (fun l => l.qty.balanced && decide (l.qty.loaded ≤ 65535) && decide (l.number ≠ 0)) = true) ∧
  (∀ i j : Slot, i ≠ j → (s.lots.get i).all
    (fun l => (s.lots.get j).all fun m => decide (l.number ≠ m.number)) = true)

/-- A response whose LEN fits its frame (R163). -/
def Response.fits (r : Response) : Bool := decide (r.body.length ≤ 238)

/-- The law of the collections (section 0.7, R7, R28, R125, R163, R175): none holds more than its capacity, and no
response has a BODY of more than 238 bytes. -/
abbrev State.capacityLaw (s : State) : Prop :=
  s.claims.length ≤ 16 ∧
  (∀ i : Slot, (s.lots.get i).all (fun l => decide (l.handoffs.length ≤ 16)) = true) ∧
  (∀ n : StopNo, (s.stops.get n).all (fun st => decide (st.planned.length ≤ 8)) = true) ∧
  (∀ c : Comp, (s.watches.get c).list.length ≤ 8) ∧
  (∀ i : Probe, (s.probes.get i).ring.length ≤ 4) ∧
  (∀ p : Port, (s.ports.get p).urgent.length ≤ 8 ∧ (s.ports.get p).routine.length ≤ 16 ∧
    (s.ports.get p).request.all Response.fits = true) ∧
  s.report.all (fun r => decide (r.handoffs.length ≤ 16)) = true

/-- The law of the pools (R54, R62, R64): while READY, no pool exceeds its pool max. -/
abbrev State.poolLaw (s : State) : Prop :=
  s.phase = .ready → ∀ c : Comp, (s.defrosts.get c).pool ≤ (s.settings.comps.get c).poolMax

/-- The law of the claim table (R142, R143, R147, R150): numbers lie in 1 to 65535 and none is held twice, a DECIDED
claim has its verdict and figures, and while READY a claim is ASSESSING only if the assessor works on it. -/
abbrev State.claimLaw (s : State) : Prop :=
  s.claims.length ≤ 16 ∧ (s.claims.map Claim.number).Nodup ∧
  (∀ c ∈ s.claims, 1 ≤ c.number ∧ c.number ≤ 65535) ∧ 1 ≤ s.nextClaim ∧ s.nextClaim ≤ 65535 ∧
  (∀ c ∈ s.claims, c.state = .decided → c.verdict.isSome = true ∧ c.figures.isSome = true) ∧
  (s.phase = .ready → ∀ c ∈ s.claims, c.state = .assessing →
    s.assessor.any (fun a => a.claim == some c.number && !a.discard) = true)

/-- The law of the OPEN stop (R104): the route record names a stop only while DISPATCHED, and exactly the stop that
is OPEN; every OFFERED handoff was offered at it. -/
abbrev State.openStopLaw (s : State) : Prop :=
  (s.route.openStop.isSome = true → s.route.state = .dispatched) ∧
  (∀ n : StopNo, s.route.openStop = some n ↔ (s.stops.get n).any (fun st => st.state == .opened) = true) ∧
  (∀ j : HIndex, (s.handoffs.get j).all (fun h => h.state != .offered ||
    (s.route.openStop == some h.stop && (s.stops.get h.stop).any fun st => st.offers.contains j)) = true)

/-- A watch that R25 allows: its hit counter is at most 255, and it is EXCURSION or RECOVERING exactly when its
excursion list holds an open record, which is its newest. -/
abbrev Watch.lawful (w : Watch) : Prop :=
  w.hits ≤ 255 ∧ (∀ e ∈ w.list.dropLast, e.finish ≠ none) ∧
    ((w.state = .excursion ∨ w.state = .recovering) ↔ ∃ e ∈ w.list, e.finish = none)

/-- The law of the watches (R25). -/
abbrev State.watchLaw (s : State) : Prop := ∀ c : Comp, (s.watches.get c).lawful

/-- No command stops the machine: every step answers a next state. -/
def safeStep (s : State) : Prop := ∃ t, step s = .next t

end Sys2Proof.Machine
end

