-- ==== Sys2Proof/Certificates/Slice0/Obligations.lean ====
section
/-!
DEFINITION. The statements for the provers. A statement about a request says what the K46 is after it, as
`answered port code tag status body state`: `state` is what the request's own rule leaves, and the response changes
port `port` alone (Obligations.AnswerFrame). The clauses about one request follow the order of its rule's checks.
-/

open Sys2Proof Sys2Proof.Machine

/-! ### The step -/

/-- A step runs the command at the front of the queue with the queue's rest. The queue is the model's own (log 17). -/
def Obligations.StepRunsFrontCommand : Prop :=
  ∀ (c : Instr) (rest : List Instr) (s : State), s.pending = c :: rest → step s = exec c { s with pending := rest }

/-- No command stops the K46, and none touches the queue. That a command whose condition does not hold does nothing is
the model's choice (log 1). -/
def Obligations.EveryCommandAnswers : Prop :=
  ∀ (c : Instr) (s : State), ∃ t, exec c s = .next t ∧ t.pending = s.pending

/-! ### Taking and answering a request -/

/-- The response to a request changes its port alone: the request state becomes ANSWERING with the response, whose
KIND is the request's plus 0x80; a refusal enters the refusal record with the request's KIND, the status and the time;
and an idle transmitter begins to send the response with the attention code composed now (log 2). The attention code
is the number of the highest-numbered condition of R177 that holds. On the line the response is a frame of R182 with
the header of R162. The CRC-16 of frames and proof records is the one of R182: from 0xFFFF the register takes each
byte's bits, most significant first, with polynomial x^16 + x^12 + x^5 + 1, and "123456789" gives 0x29B1. -/
def Obligations.AnswerFrame : Prop :=
  (∀ bytes : List Byte, crc16 bytes = serialCrc bytes) ∧
  crc16 [0x31, 0x32, 0x33, 0x34, 0x35, 0x36, 0x37, 0x38, 0x39] = 0x29B1 ∧
  (∀ (r : Response) (code : Nat),
    (TxFrame.response r code).bytes = framed ([r.kind, r.status.code, BitVec.ofNat 8 code, r.tag] ++ r.body)) ∧
  (∀ (p : Port) (kind tag : Byte) (status : Status) (body : List Byte) (s : State),
    let t := answered p kind tag status body s
    let r : Response := ⟨kind + 0x80, status, tag, body, .nothing⟩
    let refused := status ≠ .ok ∧ status ≠ .pending ∧ status ≠ .deferred
    t = { s with ports := t.ports } ∧ (∀ q, q ≠ p → t.ports.get q = s.ports.get q) ∧
    t.ports.get p = { s.ports.get p with
      request := some r
      tx := if (s.ports.get p).tx = none then some (.response r (attention s p)) else (s.ports.get p).tx
      refusal := if refused then some ⟨kind, status, s.seconds⟩ else (s.ports.get p).refusal
      refusals := if refused then min ((s.ports.get p).refusals + 1) 255 else (s.ports.get p).refusals }) ∧
  (∀ (p : Port) (s : State),
    let openStop := s.route.openStop.bind fun n => s.stops.get n
    attention s p =
      if (s.ports.get p).droppedUrgent = true then 15
      else if ∃ c : Comp, (s.watches.get c).state = .excursion ∨ (s.watches.get c).state = .recovering then 12
      else if ∃ c : Comp, (s.defrosts.get c).state = .overrun then 11
      else if ∃ d : Comp, (s.doors.get d).state = .held then 10
      else if openStop.any Stop.doorOver = true then 9
      else if ∃ d : Comp, (s.doors.get d).latch ≠ none then 8
      else if openStop.any Stop.late = true then 7
      else if ∃ i : Probe, (s.probes.get i).latch ≠ none then 6
      else if ∃ c : Comp, (s.comps.get c).latest.any (fun r => r.source == .blind) = true then 5
      else if ∃ j : HIndex,
        (s.handoffs.get j).any (fun h => h.state == .offered || h.state == .proofReady) = true then 4
      else if ∃ c ∈ s.claims, c.state = .decided ∧ c.fetched = false then 3
      else if s.defaulted = true then 2
      else if s.clockUnset = true then 1
      else 0)

/-- A request on a port whose line works: while ANSWERING it is lost and only counted; while STARTING it is answered
NOT_READY; from a role without the right it is answered NO_RIGHT. The last two change nothing else. The codes that
each role has a right to are those of R164. -/
def Obligations.RequestsAreJudged : Prop :=
  (∀ (c : Instr) (p : Port) (kind tag : Byte) (body : List Byte) (s : State),
    encodeRequest c = some (p, kind, tag, body) → s.phase ≠ .off → (s.ports.get p).rx ≠ .broken →
    (if (s.ports.get p).request ≠ none then
      exec c s = .next (s.modPort p fun ps => { ps with lost := min (ps.lost + 1) 65535 })
    else if s.phase ≠ .ready then exec c s = .next (answered p kind tag .notReady [] s)
    else if hasRight kind (s.ports.get p).role = false then exec c s = .next (answered p kind tag .noRight [] s)
    else True)) ∧
  (∀ (kind : Byte) (role : Role),
    let all := [0x02, 0x03, 0x04, 0x05, 0x07, 0x10, 0x11, 0x14, 0x16, 0x24, 0x25, 0x2E, 0x34]
    let codes : List Nat := match role with
      | .noRole => []
      | .cab => all ++ [0x15, 0x21, 0x22, 0x2C, 0x2D, 0x30, 0x31, 0x32, 0x33, 0x38, 0x3A]
      | .dock => all ++ [0x06, 0x08, 0x09, 0x12, 0x13, 0x20, 0x21, 0x22, 0x23, 0x26, 0x28, 0x29, 0x2A, 0x2B, 0x38, 0x39,
          0x3A, 0x3B, 0x3C]
      | .cooling => all ++ [0x12, 0x13, 0x15, 0x17, 0x18]
    hasRight kind role = decide (kind.toNat ∈ 0x01 :: codes))

/-- Whatever a request is refused for, the refusal changes nothing but the port's response and refusal record. -/
def Obligations.RefusalsChangeNothing : Prop :=
  ∀ (c : Instr) (p : Port) (kind tag : Byte) (body : List Byte) (s t : State) (r : Response),
    encodeRequest c = some (p, kind, tag, body) → (s.ports.get p).request = none → exec c s = .next t →
    (t.ports.get p).request = some r → r.status ≠ .ok → r.status ≠ .pending → r.status ≠ .deferred →
    sameButRefusal p s t ∧ r.kind = kind + 0x80 ∧ r.tag = tag ∧ r.after = .nothing ∧
      (t.ports.get p).refusal = some ⟨kind, r.status, s.seconds⟩

/-- Reading back the KIND, TAG and BODY that carry a request gives the request, for every operand of every request
that a frame can carry. -/
def Obligations.DecodeOfEncode : Prop :=
  ∀ (c : Instr) (p : Port) (kind tag : Byte) (body : List Byte),
    c.wellFormed = true → encodeRequest c = some (p, kind, tag, body) →
    decodeRequest p kind tag body = .request c ∧ body.length ≤ 240 ∧ definedKind kind = true

/-- The bytes of a request's frame, received one after another from HUNTING, do what the request does on a port whose
good frames count is one higher. That the request rows stand for the handover of a good frame is the model's choice
(log 16). -/
def Obligations.FrameDelivery : Prop :=
  ∀ (c : Instr) (p : Port) (kind tag : Byte) (body : List Byte) (s : State),
    c.wellFormed = true → encodeRequest c = some (p, kind, tag, body) → s.phase ≠ .off →
    (s.ports.get p).rx = .hunting →
    State.receiveAll p (requestFrame kind tag body) s =
      exec c (s.modPort p fun ps => { ps with good := min (ps.good + 1) 65535 })

/-- Received bytes that complete no frame act on their port alone: HUNTING takes 0xA5 alone; a LEN out of 2 to 242 and
a framing error abandon the frame and count it as errored; other bytes are kept; a silence of more than 20 ms abandons
the frame, and the byte after it is taken as from HUNTING. A receiver in BREAK takes no byte. A complete frame whose
CHECK differs from the CRC-16 of its bytes from LEN to the end of BODY is counted as errored, and nothing is
answered. -/
def Obligations.ReceiverBytes : Prop :=
  (∀ (p : Port) (b : Byte) (s : State) (bytes : List Byte) (silence : Nat), s.phase ≠ .off →
     let errored : PortState → PortState := fun ps => { ps with rx := .hunting, errored := min (ps.errored + 1) 65535 }
     ((s.ports.get p).rx = .broken →
       exec (.interByteTimeout p) s = .next s ∧ ∀ framingError, exec (.byteReceived p b framingError) s = .next s) ∧
     ((s.ports.get p).rx = .hunting →
       exec (.interByteTimeout p) s = .next s ∧
       exec (.byteReceived p b true) s = .next s ∧
       exec (.byteReceived p b false) s =
         .next (if b = 0xA5 then s.modPort p fun ps => { ps with rx := .inFrame [] 0 } else s)) ∧
     ((s.ports.get p).rx = .inFrame bytes silence →
       (if silence ≤ 20 then
         exec (.interByteTimeout p) s = .next s ∧
         exec (.byteReceived p b true) s = .next (s.modPort p errored) ∧
         (bytes = [] → exec (.byteReceived p b false) s =
           .next (if 2 ≤ b.toNat ∧ b.toNat ≤ 242 then s.modPort p fun ps => { ps with rx := .inFrame [b] 0 }
                  else s.modPort p errored)) ∧
         (∀ len rest, bytes = len :: rest → rest.length + 2 < len.toNat + 3 →
           exec (.byteReceived p b false) s = .next (s.modPort p fun ps => { ps with rx := .inFrame (bytes ++ [b]) 0 }))
       else
         exec (.interByteTimeout p) s = .next (s.modPort p errored) ∧
         exec (.byteReceived p b true) s = .next (s.modPort p errored) ∧
         exec (.byteReceived p b false) s = exec (.byteReceived p b false) (s.modPort p errored)))) ∧
  (∀ (p : Port) (s : State) (content : List Byte) (c1 c0 : Byte) (silence : Nat), s.phase ≠ .off →
     2 ≤ content.length → content.length ≤ 242 → silence ≤ 20 →
     (s.ports.get p).rx = .inFrame (BitVec.ofNat 8 content.length :: content ++ [c1]) silence →
     [c1, c0] ≠ halfBytes (crc16 (BitVec.ofNat 8 content.length :: content)) →
     exec (.byteReceived p c0 false) s =
       .next (s.modPort p fun ps => { ps with rx := .hunting, errored := min (ps.errored + 1) 65535 }))

/-- A taken frame whose KIND is not defined is answered BAD_REQUEST with KIND 0x80 and an empty BODY; while STARTING
it is answered NOT_READY, with a KIND that is the model's free value where the sum does not fit a byte (log 4). A good
frame that comes while the port is ANSWERING is lost. A frame with an undefined KIND does the same when it is received
byte by byte, and one whose BODY has not the length of R183 is answered BAD_REQUEST (step 4 of R162), with good frames
one higher (log 16). -/
def Obligations.UndefinedAndDiscarded : Prop :=
  let lengths : List (Nat × Nat) :=
    [(0x01, 0), (0x02, 0), (0x03, 1), (0x04, 2), (0x05, 0), (0x06, 4), (0x07, 2), (0x09, 0), (0x10, 1), (0x11, 1),
     (0x12, 1), (0x13, 1), (0x14, 1), (0x15, 1), (0x16, 1), (0x17, 1), (0x18, 1), (0x20, 8), (0x21, 5), (0x22, 6),
     (0x23, 5), (0x24, 5), (0x25, 1), (0x26, 5), (0x28, 2), (0x2A, 0), (0x2B, 0), (0x2C, 1), (0x2D, 0), (0x2E, 1),
     (0x30, 6), (0x31, 8), (0x32, 3), (0x33, 1), (0x34, 1), (0x38, 7), (0x39, 2), (0x3A, 2), (0x3B, 2), (0x3C, 0)]
  (∀ (p : Port) (kind tag : Byte) (s : State), (s.ports.get p).rx ≠ .broken →
    (definedKind kind = false → s.phase = .ready → (s.ports.get p).request = none →
      exec (.undefinedRequest p kind tag) s = .next (State.respond p kind 0x80 tag (reply .badRequest s))) ∧
    (definedKind kind = false → s.phase ≠ .ready → s.phase ≠ .off → (s.ports.get p).request = none →
      exec (.undefinedRequest p kind tag) s = .next (State.respond p kind
        (if kind.toNat < 0x80 then kind + 0x80 else Config.wideKind kind) tag (reply .notReady s))) ∧
    (s.phase ≠ .off → (s.ports.get p).request ≠ none →
      exec (.frameDiscarded p) s = .next (s.modPort p fun ps => { ps with lost := min (ps.lost + 1) 65535 }) ∧
      (definedKind kind = false → exec (.undefinedRequest p kind tag) s =
        .next (s.modPort p fun ps => { ps with lost := min (ps.lost + 1) 65535 })))) ∧
  (∀ kind : Byte, definedKind kind = decide (kind.toNat ∈ 0x08 :: 0x29 :: lengths.map Prod.fst)) ∧
  (∀ (p : Port) (kind tag : Byte) (body : List Byte) (s : State), body.length ≤ 240 → (s.ports.get p).rx = .hunting →
    let t := s.modPort p fun ps => { ps with good := min (ps.good + 1) 65535 }
    let wrongLength :=
      (∃ n, (kind.toNat, n) ∈ lengths ∧ body.length ≠ n) ∨
      kind.toNat = 0x08 ∧
        (body.length < 2 ∨ ∃ m, [6, 2, 6, 5, 19, 19][(body.headD 6).toNat]? = some m ∧ body.length ≠ 2 + m) ∨
      kind.toNat = 0x29 ∧ (body.length < 14 ∨ body.length ≠ 14 + 6 * (body.getD 13 0).toNat)
    (definedKind kind = false → s.phase ≠ .off →
      State.receiveAll p (requestFrame kind tag body) s = exec (.undefinedRequest p kind tag) t) ∧
    (wrongLength → s.takes p kind →
      State.receiveAll p (requestFrame kind tag body) s = .next (answered p kind tag .badRequest [] t)))

/-! ### The transmitter, notices and breaks -/

/-- When a response has been sent the port is IDLE again, and what waited for it may follow: the start of a RESTART,
or a change of PORT settings. When a notice has been sent, the changes of PORT settings that waited for this instant
take effect, and then a response that waits begins with the attention code of that instant. That these changes act
before the response begins, so that its attention code is composed after them, is the model's choice (log 12), and log
2 says when the model lets a frame begin. Where two ports have sent a RESTART, that the first of their responses to be
sent or dropped makes the start due is the model's choice (log 23). -/
def Obligations.TransmitterEnds : Prop :=
  ∀ (p : Port) (s : State) (r : Response) (n : Notice) (code : Nat),
    ((s.ports.get p).tx = some (.response r code) →
      let t := s.modPort p fun ps => { ps with tx := none, request := none }
      exec (.responseSent p) s = .next (match r.after with
        | .nothing => t
        | .restart => { t with restartDue := true }
        | .port q => t.modPort q fun ps => { ps with
            changes := ps.changes.map fun c => if c.sender = p then { c with due := true } else c })) ∧
    ((s.ports.get p).tx = some (.notice n code) →
      let t := s.modPort p fun ps => { ps with tx := none }
      ∃ u, exec (.portSettingsEffect p) t = .next u ∧
        ((s.ports.get p).changes.any PortChange.due = false → u = t) ∧
        (u.ports.get p).request = (s.ports.get p).request ∧
        exec (.noticeFrameEnd p) s = .next (u.modPort p fun ps => { ps with
          tx := ps.request.map fun r => .response r (attention u p) }))

/-- A port sends a notice only when all of R176's conditions hold; then the oldest urgent notice, or with none the
oldest routine one, leaves its queue and begins to be sent with the attention code of that instant. On the line it is
a frame of R182 with the code, the posting time and the body of R183. -/
def Obligations.NoticeSend : Prop :=
  noticeLayouts ∧
  (∀ (n : Notice) (code : Nat), (TxFrame.notice n code).bytes =
    framed ([0xF0, n.body.code, BitVec.ofNat 8 code] ++ timeBytes n.time ++ n.body.bytes)) ∧
  ∀ (p : Port) (s : State),
    let ps := s.ports.get p
    exec (.noticeSend p) s = .next (
      if s.phase = .ready ∧ ps.request = none ∧ ps.rx ≠ .broken ∧ ps.sending = true ∧ ps.tx = none then
        match ps.urgent with
        | n :: rest => s.modPort p fun x => { x with urgent := rest, tx := some (.notice n (attention s p)) }
        | [] => match ps.routine with
          | n :: rest => s.modPort p fun x => { x with routine := rest, tx := some (.notice n (attention s p)) }
          | [] => s
      else s)

/-- A posted notice is offered to every port. On a port whose role subscribes to its code (R174), it joins the end of
the urgent or the routine queue, as its kind is; a full routine queue loses its oldest notice and counts it, a full
urgent queue loses the new one and sets the flag. DOOR_CHANGE is urgent for an UNSCHEDULED opening (R44).
REPORT_READY, which no block posts to every port, is offered to its holder by the same rule (R169). -/
def Obligations.NoticePost : Prop :=
  ∀ (s : State) (b : NoticeBody) (p : Port),
    let n : Notice := ⟨b, s.seconds⟩
    let ps := s.ports.get p
    let codes : List Nat := match ps.role with
      | .cab => [0x01, 0x02, 0x03, 0x04, 0x05, 0x06, 0x07, 0x08, 0x0A, 0x0B, 0x0C]
      | .dock => [0x01, 0x02, 0x03, 0x05, 0x06, 0x09, 0x0C, 0x0D]
      | .cooling => [0x01, 0x02, 0x03, 0x05, 0x06, 0x08, 0x09, 0x0E]
      | .noRole => []
    let urgent := b.code.toNat ∈ [0x01, 0x03, 0x04, 0x05, 0x06, 0x07] ∨
      ∃ d time cause, b = .doorChange d true time (some .unscheduled) cause
    s.post b = { s with ports := (s.post b).ports } ∧
    (s.post b).ports.get p = PortState.enqueue n ps ∧
    (b.code.toNat ∉ codes → PortState.enqueue n ps = ps) ∧
    (b.code.toNat ∈ codes → urgent → PortState.enqueue n ps =
        if ps.urgent.length < 8 then { ps with urgent := ps.urgent ++ [n] } else { ps with droppedUrgent := true }) ∧
    (b.code.toNat ∈ codes → ¬ urgent → PortState.enqueue n ps =
        if ps.routine.length < 16 then { ps with routine := ps.routine ++ [n] }
        else { ps with routine := ps.routine.drop 1 ++ [n], droppedRoutine := min (ps.droppedRoutine + 1) 65535 })

/-- A port break empties the port's queues, removes its bid, frees the report slot if the port holds it, drops its
response and stops its transmitter, and the scan period is worked out again. What waited for the dropped response may
follow: the start of a RESTART (R180), or a change of PORT settings on any port (R158). The blocks and the other ports
keep everything else. The end of the break puts the receiver back to HUNTING. That a line still spacing after a start,
whose receiver is HUNTING again, takes a break again is the model's choice (log 22). Where two ports have sent a
RESTART, that the first of their responses to be sent or dropped makes the start due is the model's choice (log
23). -/
def Obligations.PortBreak : Prop :=
  ∀ (p : Port) (s : State), s.phase ≠ .off →
    ((s.ports.get p).rx ≠ .broken → ∃ t, exec (.portBreak p) s = .next t ∧
      t = { s with ports := t.ports, report := t.report, scanner := t.scanner, restartDue := t.restartDue } ∧
      t.report = (s.report.filter fun r => r.holder != p) ∧ periodWorkedOut s t ∧
      t.restartDue = (s.restartDue || (s.ports.get p).request.any fun r => r.after == .restart) ∧
      (∀ q, t.ports.get q =
        let ps := if q = p then { s.ports.get q with
            rx := .broken, urgent := [], routine := [], bid := none, request := none, tx := none }
          else s.ports.get q
        { ps with changes :=
            if (s.ports.get p).request.any (fun r => r.after == .port q) = true then
              ps.changes.map fun c => if c.sender = p then { c with due := true } else c
            else ps.changes })) ∧
    ((s.ports.get p).rx = .broken →
      exec (.portBreak p) s = .next s ∧
      exec (.breakEnd p) s = .next (s.modPort p fun ps => { ps with rx := .hunting }))

/-- A due change of PORT settings takes effect when the port sends no frame: a new role removes the bid, the queues
and a report slot that the port holds; a new baud abandons the frame being received; counters, refusal record and a
request already taken are kept. Every accepted change takes its own effect; that those which are due together act in
the order in which they were accepted, and that a receiver in BREAK stays in BREAK at a change of baud, are the
model's choices (log 12). With no due change, or while the port sends a frame, nothing happens. -/
def Obligations.PortSettingsEffect : Prop :=
  ∀ (p : Port) (s : State),
    (s.phase = .off ∨ (s.ports.get p).tx ≠ none ∨ (s.ports.get p).changes.any PortChange.due = false →
      exec (.portSettingsEffect p) s = .next s) ∧
    ∀ (before after : List PortChange) (c : PortChange), s.phase ≠ .off → (s.ports.get p).tx = none →
      (s.ports.get p).changes = before ++ c :: after → before.any PortChange.due = false → c.due = true →
      ∃ t, (if after.any PortChange.due = true then exec (.portSettingsEffect p) s = exec (.portSettingsEffect p) t
          else exec (.portSettingsEffect p) s = .next t) ∧
        t = { s with ports := t.ports, report := t.report, scanner := t.scanner } ∧
        (∀ q, q ≠ p → t.ports.get q = s.ports.get q) ∧
        (let ps := s.ports.get p
         let rx : Receiver := match ps.rx with
           | .inFrame _ _ => if c.baud = ps.baud then ps.rx else .hunting
           | x => x
         if c.role = ps.role then
           t.report = s.report ∧ t.scanner = s.scanner ∧
           t.ports.get p = { ps with changes := before ++ after, baud := c.baud, rx := rx }
         else
           t.report = (s.report.filter fun r => r.holder != p) ∧
           periodWorkedOut s t ∧
           t.ports.get p = { ps with
             changes := before ++ after, role := c.role, baud := c.baud, rx := rx, bid := none, urgent := []
             routine := [] })

/-! ### Requests about a port -/

/-- PORT_STATUS reports on its port, and clears its dropped urgent flag after the body is formed. COUNTERS_CLEAR gives
the counters and the refusal record as they stood, and empties them on its port alone. NOTICE_ENABLE sets the sending
switch of its port, or refuses a value other than on and off. The layout of the refusal record, and the presence flag
that says whether the port holds the report slot, are the model's reading (log 6), and so is when a change waits (log
12). -/
def Obligations.PortRequests : Prop :=
  (∀ (p : Port) (tag : Byte) (s : State), s.takes p 0x01 →
     let ps := s.ports.get p
     let waits := ps.changes.any fun c => c.role != ps.role || c.baud != ps.baud
     let clamped (bid : Nat) : Nat := max s.settings.general.scanFloor (min bid 256)
     let held (r : Report) : List Byte :=
       (if r.timer = none then u8 1 else u8 2) ++ wordBytes r.lot ++ opt 2 u16 r.timer
     exec (.portStatus p tag) s = .next (answered p 0x01 tag .ok
       (u8 p.val ++ u8 ps.role.code ++ u8 ps.baud.code ++ flag waits ++ u16 ps.good ++ u16 ps.errored ++ u16 ps.lost
         ++ ps.refusalBytes ++ opt 4 (fun b => u16 b ++ u16 (clamped b)) ps.bid ++ u16 s.scanner.period
         ++ opt 8 held (s.report.filter fun r => r.holder == p) ++ flag ps.sending ++ u8 ps.urgent.length
         ++ u8 ps.routine.length ++ u16 ps.droppedRoutine ++ flag ps.droppedUrgent)
       (s.modPort p fun ps => { ps with droppedUrgent := false }))) ∧
  (∀ ps : PortState, ps.refusalBytes = (match ps.refusal with
      | some r => [1, r.kind, r.status.code] ++ timeBytes r.time
      | none => List.replicate 7 0) ++ u8 ps.refusals) ∧
  (∀ (p : Port) (tag : Byte) (s : State), s.takes p 0x02 →
     let ps := s.ports.get p
     exec (.countersClear p tag) s = .next (answered p 0x02 tag .ok
       (halfBytes (BitVec.ofNat 16 ps.good) ++ halfBytes (BitVec.ofNat 16 ps.errored)
         ++ halfBytes (BitVec.ofNat 16 ps.lost) ++ ps.refusalBytes)
       (s.modPort p fun ps => { ps with
         good := 0, errored := 0, lost := 0, refusal := none, refusals := 0, droppedRoutine := 0 }))) ∧
  (∀ (p : Port) (tag value : Byte) (s : State), s.takes p 0x03 →
     let ps := s.ports.get p
     exec (.noticeEnable p tag value) s = .next (
       if value = 0 ∨ value = 1 then
         answered p 0x03 tag .ok
           [if ps.sending then 1 else 0, BitVec.ofNat 8 ps.urgent.length, BitVec.ofNat 8 ps.routine.length]
           (s.modPort p fun ps => { ps with sending := decide (value = 1) })
       else answered p 0x03 tag .range [] s))

/-- SCAN_BID replaces or withdraws the port's bid and works the period out again; a due time later than the new period
allows moves, any other stays; the response gives the clamped bid and the period. -/
def Obligations.ScanBid : Prop :=
  ∀ (p : Port) (tag : Byte) (seconds : Half) (s : State), s.takes p 0x04 →
    ∃ t, exec (.scanBid p tag seconds) s = .next (answered p 0x04 tag .ok
        ((if seconds = 0 then [0, 0, 0]
          else 1 :: halfBytes (BitVec.ofNat 16 (max s.settings.general.scanFloor (min seconds.toNat 256))))
          ++ halfBytes (BitVec.ofNat 16 t.scanner.period)) t) ∧
      t = { s with ports := t.ports, scanner := t.scanner } ∧
      (∀ q, t.ports.get q =
        if q = p then { s.ports.get q with bid := if seconds = 0 then none else some seconds.toNat }
        else s.ports.get q) ∧
      periodWorkedOut s t

/-! ### Settings, clock and starts -/

/-- CLOCK_GET reports; CLOCK_SET is refused STATE while DISPATCHED, and otherwise sets the count, clears the clock
unset flag and moves every step base (and the scan in flight) by the same amount. -/
def Obligations.Clock : Prop :=
  ∀ (p : Port) (tag : Byte) (now : Word) (s : State),
    (s.takes p 0x05 → exec (.clockGet p tag) s = .next (answered p 0x05 tag .ok
      (wordBytes s.seconds ++ [if s.clockUnset then 1 else 0]) s)) ∧
    (s.takes p 0x06 → exec (.clockSet p tag now) s = .next (
      if s.route.state = .dispatched then answered p 0x06 tag .state [] s
      else answered p 0x06 tag .ok (wordBytes s.seconds ++ wordBytes now)
        { s with
          seconds := now
          clockUnset := false
          bases := mapV (fun b => { b with base := b.base.map fun t => t + (now - s.seconds) }) s.bases
          scanner := { s.scanner with scan := s.scanner.scan.map fun x =>
            { x with shift := x.shift + (now - s.seconds) } } }))

/-- The checks of SETTINGS_PUT in their order, after the length that the group fixes. Check 1: an entry is named by a
group and an index below the group's entry count, which is 1, 3, 8, 4, 4 and 16 for groups 0 to 5. Check 4: the BODY
spells an entry, in the layout of section 12.4, with every field in its range and every relation kept (the inRange
checks of Safety), and the new settings are the old ones with that entry, or the BODY spells none and the request is
refused RANGE. -/
def Obligations.SettingsPutOrder : Prop :=
  (∀ group index : Byte, entryRef group index = match group.toNat with
    | 0 => if index.toNat < 1 then some .general else none
    | 1 => if h : index.toNat < 3 then some (.port ⟨index.toNat, h⟩) else none
    | 2 => if h : index.toNat < 8 then some (.probe ⟨index.toNat, h⟩) else none
    | 3 => if h : index.toNat < 4 then some (.door ⟨index.toNat, h⟩) else none
    | 4 => if h : index.toNat < 4 then some (.compartment ⟨index.toNat, h⟩) else none
    | 5 => if h : index.toNat < 16 then some (.cls ⟨index.toNat, h⟩) else none
    | _ => none) ∧
  (∀ (st new : Settings) (bytes : List Byte) (p : Port) (i : Probe) (c : Comp) (k : ClassNo),
    (st.put .general bytes = some new ↔
      ∃ x : General, x.inRange = true ∧ x.bytes = bytes ∧ new = { st with general := x }) ∧
    (st.put (.port p) bytes = some new ↔
      ∃ x : PortCfg, x.bytes = bytes ∧ new = { st with ports := setAt st.ports p x }) ∧
    (st.put (.probe i) bytes = some new ↔
      ∃ x : ProbeCfg, x.inRange = true ∧ x.bytes = bytes ∧ new = { st with probes := setAt st.probes i x }) ∧
    (st.put (.door c) bytes = some new ↔
      ∃ x : DoorCfg, x.inRange = true ∧ x.bytes = bytes ∧ new = { st with doors := setAt st.doors c x }) ∧
    (st.put (.compartment c) bytes = some new ↔
      ∃ x : CompCfg, x.inRange = true ∧ x.bytes = bytes ∧ new = { st with comps := setAt st.comps c x }) ∧
    (st.put (.cls k) bytes = some new ↔
      ∃ x : ClassCfg, x.inRange = true ∧ x.bytes = bytes ∧ new = { st with classes := setAt st.classes k x })) ∧
  ∀ (p : Port) (tag group index : Byte) (entry : List Byte) (s : State), s.takes p 0x08 →
    answersWith (.settingsPut p tag group index entry) s p (
      if badEntryLength group entry = true then .badRequest
      else match entryRef group index with
        | none => .range
        | some r =>
          if s.route.state = .dispatched then .state
          else if s.storeWrite = true ∨ s.restartTaken = true then .busy
          else match s.settings.put r entry with
            | none => .range
            | some new =>
              match r with
              | .cls k => if s.lots.toList.any (fun o => o.any fun l => l.cls == k) = true then .inUse else .ok
              | .port _ => if new.ports.toList.any (fun c => c.role == .dock) = true then .ok else .inUse
              | _ => .ok)

/-- An accepted SETTINGS_PUT gives the old entry, takes the new one and begins a store write. A probe's validation
state is emptied, and the scan period is worked out again. A PORT change joins the changes that wait, and waits for
the response. A changed polarity makes the door UNSETTLED; a debounce time at or below the time for which a candidate
has been present accepts the change at once, and a held limit at or below the held timer makes an OPEN door HELD (that
the accepted change comes first, and that the first level of an UNSETTLED door sets its last change time, are the
model's choices, logs 10 and 9); the other doors are kept. The notice mode sets the armed flag, and the pool is
clamped, with a refill whose new interval has passed. -/
def Obligations.SettingsPutEffect : Prop :=
  ∀ (p : Port) (tag group index : Byte) (entry : List Byte) (s : State) (r : EntryRef) (new : Settings),
    s.takes p 0x08 → badEntryLength group entry = false → entryRef group index = some r →
    s.route.state ≠ .dispatched → s.storeWrite = false → s.restartTaken = false →
    s.settings.put r entry = some new → s.entryInUse r new = false →
    let base := { s with settings := new, storeWrite := true }
    ∃ t after, exec (.settingsPut p tag group index entry) s = .next (State.respond p 0x08 0x88 tag
        { status := .ok, body := s.settings.entryBytes r, after := after, state := t }) ∧
      match r with
      | .general => after = .nothing ∧ t = { base with scanner := t.scanner } ∧ periodWorkedOut base t
      | .port q => after = .port q ∧ t = base.modPort q fun ps => { ps with
          changes := ps.changes ++ [⟨(new.ports.get q).role, (new.ports.get q).baud, p, false⟩] }
      | .probe i => after = .nothing ∧ t = base.modProbe i fun x => { x with accepted := none, jumped := none }
      | .door d => after = .nothing ∧
          if (new.doors.get d).polarity ≠ (s.settings.doors.get d).polarity then
            t = base.modDoor d fun x => { x with state := .unsettled, candidate := some 0, period := none }
          else
            let x := s.doors.get d
            let cfg := new.doors.get d
            let isOpen := decide (cfg.polarity = .openHigh) == x.high
            let differs := match x.state with
              | .unsettled => true
              | .closed => isOpen
              | _ => !isOpen
            let due := differs = true ∧ x.candidate.any (fun n => decide (cfg.debounce ≤ n)) = true
            t = { base with doors := t.doors, ports := t.ports } ∧
            (∀ e, e ≠ d → t.doors.get e = s.doors.get e) ∧
            (due → exec (.acceptedChange d) base = .next t ∧ (t.doors.get d).candidate = none ∧
              (t.doors.get d).lastChange = some s.seconds ∧
              (t.doors.get d).state = if isOpen then .opened else .closed) ∧
            (¬ due → ∀ y : OpenPeriod, x.state = .opened → x.period = some y → cfg.heldLimit ≤ y.held →
              t = (base.modDoor d fun x => { x with state := .held }).post (.doorHeld d y.start y.kind)) ∧
            (¬ due → (x.state = .opened → ∀ y : OpenPeriod, x.period = some y → y.held < cfg.heldLimit) → t = base)
      | .compartment c => after = .nothing ∧
          let cfg := new.comps.get c
          t = (base.modWatch c fun w => { w with
              armed := w.armed || ((s.settings.comps.get c).mode == .every && cfg.mode == .firstOnly) }).modDefrost c
            fun a =>
              let pool := min a.pool cfg.poolMax
              if cfg.refillInterval ≤ a.refill then
                { a with pool := min (pool + cfg.refillAmount) cfg.poolMax, refill := 0 }
              else { a with pool := pool }
      | .cls _ => after = .nothing ∧ t = base

/-- A completed store write leaves a store that holds the active copy and passes its check, and ends the defaulted
condition. RESTART is refused BUSY while a store write is in flight; else it is answered OK, a scan in flight is
abandoned with the settings and every other part of the state kept (R20; the instant is DEDUCED, log 13), and its
start begins once the response has been sent in full or dropped. That what no start keeps (doors, defrosts, probes,
step bases, assessor, ports) is set when the start begins, and not at READY, is the model's choice (log 13). That a
notice being sent is cut off there is the model's choice too (log 22). Where RESTART is taken on two ports, one start
follows, once the first of their responses has been sent or dropped, and a response still unsent is lost (the model's
choice, log 23). -/
def Obligations.StoreWriteAndRestart : Prop :=
  (∀ s : State, s.phase ≠ .off → s.storeWrite = true →
     exec .storeWriteCompletion s =
       .next { s with store := ⟨s.settings, true⟩, storeWrite := false, defaulted := false }) ∧
  (∀ (p : Port) (tag : Byte) (s : State),
     (s.takes p 0x09 → exec (.restart p tag) s = .next (
       if s.storeWrite = true then answered p 0x09 tag .busy [] s
       else State.respond p 0x09 0x89 tag
         { status := .ok, body := [], after := .restart
           state := { s with restartTaken := true, scanner := { s.scanner with scan := none } } })) ∧
     (s.phase = .ready → ∃ t, exec .restartStart s = .next t ∧
       if s.restartDue = true then startBegun .restart s t else t = s))

/-- Main power coming up begins a start; so does a release of RSTN with main power up, which may find a store write in
flight, whose outcome is open (log 3). What no start keeps is set at that instant, and a notice being sent is cut off
(the model's choices, logs 13 and 22). The loss of main power ends what is in flight, fails a store that is being
written, and keeps the retained memory while its marker is good. The loss of the backup supply loses the marker, so
that any start that follows is a full start, and with main power absent the retained memory and the seconds count too:
the tables are empty, the clock is unset, the watches are NORMAL and armed, the pools are at their maxima, no base
time and no fault latch is kept, and the next claim number is 1. What the loss of a supply clears is the model's
reading (log 11). -/
def Obligations.Supplies : Prop :=
  let lost (t : State) : Prop := t.seconds = 0 ∧ t.clockUnset = true ∧ (∀ i : Slot, t.lots.get i = none) ∧
    (∀ j : HIndex, t.handoffs.get j = none) ∧ (∀ n : StopNo, t.stops.get n = none) ∧
    t.route = { number := none, state := .noRoute, beginTime := none, dispatchTime := none, returnTime := none,
                openStop := none } ∧
    t.claims = [] ∧ t.nextClaim = 1 ∧ (∀ i : Probe, (t.probes.get i).latch = none) ∧
    (∀ c : Comp, t.watches.get c = ⟨.normal, 0, 0, true, 0, []⟩ ∧ (t.bases.get c).base = none ∧
      (t.defrosts.get c).pool = (t.settings.comps.get c).poolMax)
  (∀ s : State,
     (s.phase = .off → ∃ t, exec .powerUp s = .next t ∧ startBegun .powerUp s t) ∧
     (s.phase ≠ .off → ∃ t, exec .rstnReset s = .next t ∧
       if s.storeWrite = false then startBegun .powerUp s t
       else ∃ store, (store = s.store ∨ store = ⟨s.settings, true⟩ ∨ store = { s.store with valid := false }) ∧
         startBegun .powerUp { s with store := store, draws := s.draws + 1 } t)) ∧
  (∀ s : State,
     (s.phase ≠ .off → ∃ t, exec .mainPowerLoss s = .next t ∧
       t.phase = .off ∧ t.marker = s.marker ∧ t.storeWrite = false ∧ t.restartTaken = false ∧ t.restartDue = false ∧
       t.scanner = { s.scanner with scan := none } ∧ t.assessor = none ∧ t.report = none ∧ t.settings = s.settings ∧
       t.store.contents = s.store.contents ∧ t.store.valid = (s.store.valid && !s.storeWrite) ∧
       (∀ p : Port, (t.ports.get p).request = none ∧ (t.ports.get p).tx = none) ∧
       (s.marker = true → t = { s with
         phase := .off, store := t.store, storeWrite := false, restartTaken := false, restartDue := false,
         scanner := { s.scanner with scan := none }, assessor := none, report := none, ports := t.ports }) ∧
       (s.marker = false → lost t)) ∧
     (s.phase ≠ .off → exec .backupSupplyLoss s = .next { s with marker := false }) ∧
     (s.phase = .off → ∃ t, exec .backupSupplyLoss s = .next t ∧ t.marker = false ∧ lost t ∧
       t.settings = s.settings ∧ t.store = s.store ∧ t.phase = .off))

/-- A start with the marker bad becomes READY as a full start: every table is empty, the clock is unset, the pools are
at their maxima, the latches are CLEAR, the watches are NORMAL and armed, and the first scan is due. That the retained
memory is emptied at this instant, not when the start begins, is the model's choice (log 13). -/
def Obligations.FullStart : Prop :=
  ∀ (s : State) (cause : StartCause), s.phase = .starting cause → s.marker = false →
    exec .startReady s = .next { s with
      phase := .ready
      marker := true
      seconds := 0
      clockUnset := true
      scanner := { s.scanner with nextDue := s.scanner.elapsed }
      probes := mapV (fun x => { x with latch := none }) s.probes
      watches := Vector.replicate 4
        { state := .normal, hits := 0, clears := 0, armed := true, heldHits := 0, list := [] }
      defrosts := mapV (fun c =>
        { pool := c.poolMax, refill := 0, state := .idle, record := none, lastAsk := none }) s.settings.comps
      bases := Vector.replicate 4 { base := none, mark := 0, last := none }
      lots := Vector.replicate 64 none
      route := { number := none, state := .noRoute, beginTime := none, dispatchTime := none, returnTime := none,
                 openStop := none }
      stops := Vector.replicate 32 none
      handoffs := Vector.replicate 128 none
      claims := []
      nextClaim := 1 }

/-- A resumed start or RESTART with the marker good keeps the retained memory: OFFERED handoffs lapse and PROOF_READY
ones settle with C clear, the pools are clamped, each joined accounting lot of a compartment with a base time is
charged its gap (counted at a resumed start alone), the cartons of a lapsed offer come back on board, an OPEN stop
gets its whole time limit, an ASSESSING claim is LODGED again and the assessor may start, and nothing else of the
watches, latches, route, clock and lots changes. That all this falls at this instant, not when the start begins, is
the model's choice (log 13), and so is the lesser quantity where fewer cartons are on offer (log 15). -/
def Obligations.KeptStart : Prop :=
  ∀ (s : State) (cause : StartCause), s.phase = .starting cause → s.marker = true →
    (s.claims.map Claim.number).Nodup →
    ∃ t, exec .startReady s = .next t ∧
      t = { s with
        phase := .ready, scanner := { s.scanner with nextDue := s.scanner.elapsed }, defrosts := t.defrosts,
        bases := t.bases, lots := t.lots, stops := t.stops, handoffs := t.handoffs, claims := t.claims,
        assessor := t.assessor } ∧
      (∀ c : Comp,
        t.defrosts.get c = { s.defrosts.get c with
          pool := min (s.defrosts.get c).pool (s.settings.comps.get c).poolMax, refill := 0 } ∧
        t.bases.get c = { s.bases.get c with base := (s.bases.get c).base.map fun _ => s.seconds }) ∧
      (∀ j : HIndex, t.handoffs.get j = (s.handoffs.get j).map fun h =>
        match h.state with
        | .offered => { h with state := .lapsed, endTime := some s.seconds, ack := none }
        | .proofReady => { h with state := .settled, settleTime := some s.seconds, ack := none }
        | _ => h) ∧
      (∀ n : StopNo, t.stops.get n = (s.stops.get n).map fun st =>
        if s.route.openStop = some n then { st with timer := if 0 < st.limit then some st.limit else none } else st) ∧
      (∀ (i : Slot) (l : Lot), s.lots.get i = some l →
        t.lots.get i = some { l with
          qty := l.qty.backOnBoard (s.cartonsOffered (List.finRange 128) i)
          acct := match (s.bases.get l.comp).base with
            | some b =>
              if l.accounting = true ∧ l.joined = true then
                { l.acct with
                  unverified := min (l.acct.unverified + span b s.seconds) 4294967295
                  gaps := if cause = .powerUp then min (l.acct.gaps + 1) 255 else l.acct.gaps }
              else l.acct
            | none => l.acct }) ∧
      (∀ i : Slot, s.lots.get i = none → t.lots.get i = none) ∧
      t = State.startAssessor { t with
        assessor := s.assessor
        claims := s.claims.map fun c => if c.state = .assessing then { c with state := .lodged } else c } ∧
      t.claims.map Claim.number = s.claims.map Claim.number ∧
      (∀ c ∈ s.claims, c.live = false → c ∈ t.claims)

/-! ### Requests that report, and the requests about probes, watches, doors and defrosts -/

/-- The status requests are answered OK with the state as it is, and change nothing; an operand out of its range is
refused RANGE, and a lot or a handoff that is not in its table UNKNOWN. Where R182 leaves the grouping, width or order
of a body's fields open, the layout is the model's choice (log 6), and so is the reading of a compartment's enable in
COMPARTMENT_STATUS from the active settings (log 20). The encodings of the fields, the codes of enumerated values and
the layouts of records and settings entries, which these bodies and those of other requests carry, are as
fieldLayouts, codeLayouts, recordLayouts and entryLayouts of Safety spell out. LOT_LIST lists the occupied slots from
the first slot upward, in slot order. The accepted quantities of a CLOSED stop are those kept at its close, and those
of another stop are summed over its handoffs (log 14, DEDUCED). An overdue scan is due in 0 s, and a held timer shows
its low 16 bits (log 19). The lot number of a handoff, whose lot is always in the table, is read as 0 where it is
absent (log 15). -/
def Obligations.StatusReads : Prop :=
  fieldLayouts ∧ codeLayouts ∧ recordLayouts ∧ entryLayouts ∧
  (∀ (s : State) (first : Nat), ((s.lotsFrom first).map Prod.fst).Pairwise (fun i j => i < j) ∧
    ∀ (i : Slot) (l : Lot), (i, l) ∈ s.lotsFrom first ↔ first ≤ i.val ∧ s.lots.get i = some l) ∧
  ∀ (p : Port) (tag x : Byte) (s : State),
    let accounting (c : Comp) (l : Lot) : Bool := l.accounting && l.comp == c
    let lots (f : Lot → Bool) : Nat := s.lots.toList.countP fun o => o.any f
    let stops (k : StopState) : Nat := s.stops.toList.countP fun o => o.any fun st => st.state == k
    let kindField (k : Option OpeningKind) : List Byte := opt 1 (fun k : OpeningKind => u8 k.code) k
    (∀ c : Comp, indexIn 4 x = some c → s.takes p 0x10 →
      let cfg := s.settings.comps.get c
      let k := s.comps.get c
      let w := s.watches.get c
      let d := s.doors.get c
      let b := s.bases.get c
      let scanner := flag cfg.enabled ++ opt 10 Reading.bytes k.latest ++ u8 k.noLive ++ u16 s.scanner.period
        ++ u16 (s.scanner.nextDue - s.scanner.elapsed)
      let watch := t16 cfg.low ++ t16 cfg.high ++ u8 cfg.trigger ++ u8 cfg.clear ++ u8 cfg.mode.code ++ u8 w.state.code
        ++ u8 w.hits ++ u8 w.clears ++ flag w.armed ++ u16 w.heldHits ++ counted Excursion.bytes w.list
      let door := u8 d.state.code ++ flag d.latch.isSome ++ (match d.latch with
        | some l => u8 l.unreported
        | none => [0])
      let defrost := u8 (s.defrosts.get c).state.code ++ u16 (s.defrosts.get c).pool
      let exposure := opt 4 timeBytes b.base ++ wordBytes (d.openTotal - b.mark) ++ opt 13 StepRecord.bytes b.last
        ++ u8 (lots (accounting c)) ++ u8 (lots fun l => accounting c l && l.joined)
      exec (.compartmentStatus p tag x) s =
        .next (answered p 0x10 tag .ok (scanner ++ watch ++ door ++ defrost ++ exposure) s)) ∧
    (∀ i : Probe, indexIn 8 x = some i → s.takes p 0x11 → exec (.probeStatus p tag x) s = .next (answered p 0x11
      tag .ok ((s.settings.probes.get i).bytes ++ tempBytes (s.probes.get i).accepted
        ++ tempBytes (s.probes.get i).jumped ++ counted Sample.bytes (s.probes.get i).ring
        ++ FaultLatch.bytes (s.probes.get i).latch) s)) ∧
    (∀ d : Comp, indexIn 4 x = some d → s.takes p 0x14 →
      let y := s.doors.get d
      let openStop := s.route.openStop.bind fun n => s.stops.get n
      exec (.doorStatus p tag x) s = .next (answered p 0x14 tag .ok
        ((s.settings.doors.get d).bytes ++ u8 y.state.code ++ opt 4 timeBytes y.lastChange
          ++ opt 8 (fun o : OpenPeriod => timeBytes o.start ++ kindField o.kind ++ u16 o.held) y.period
          ++ DoorLatch.bytes y.latch ++ wordBytes y.openTotal
          ++ opt 6 (fun st : Stop => u16 (st.doorSecs.get d) ++ u32 st.doorSecs.toList.sum) openStop) s)) ∧
    (∀ c : Comp, indexIn 4 x = some c → s.takes p 0x16 →
      let cfg := s.settings.comps.get c
      let a := s.defrosts.get c
      exec (.defrostStatus p tag x) s = .next (answered p 0x16 tag .ok
        (u16 cfg.poolMax ++ u16 cfg.refillAmount ++ u32 cfg.refillInterval ++ u16 cfg.minGrant ++ u16 a.pool
          ++ u32 (cfg.refillInterval - a.refill) ++ u8 a.state.code ++ opt 19 DefrostRecord.bytes a.record
          ++ opt 7 Ask.bytes a.lastAsk) s)) ∧
    (∀ (y : Byte) (r : EntryRef), entryRef x y = some r → s.takes p 0x07 →
      exec (.settingsGet p tag x y) s = .next (answered p 0x07 tag .ok
        (s.settings.entryBytes r ++ [if s.storeWrite then 1 else 0, if s.defaulted then 1 else 0]) s)) ∧
    (∀ (lot : Word) (i : Slot) (l : Lot), lot ≠ 0 → x.toNat ≤ 2 → s.lotNamed lot = some (i, l) → s.takes p 0x24 →
      exec (.lotStatus p tag lot x) s = .next (answered p 0x24 tag .ok
        (if x = 0 then l.part0 i else if x = 1 then l.part1 else counted s.listedHandoff l.handoffs) s)) ∧
    (∀ i : Slot, indexIn 64 x = some i → s.takes p 0x25 →
      exec (.lotList p tag x) s = .next (answered p 0x25 tag .ok
        (counted lotEntry ((s.lotsFrom i.val).take 16) ++ (match (s.lotsFrom i.val).drop 16 with
          | [] => [0, 0]
          | e :: _ => [1, BitVec.ofNat 8 e.1.val])) s)) ∧
    (∀ n : StopNo, indexIn 32 x = some n → s.takes p 0x2E →
      let r := s.route
      let route := opt 2 halfBytes r.number ++ u8 r.state.code ++ opt 4 timeBytes r.beginTime
        ++ opt 4 timeBytes r.dispatchTime ++ opt 4 timeBytes r.returnTime
        ++ opt 1 (fun m : StopNo => u8 m.val) r.openStop
        ++ u8 (stops .planned) ++ u8 (stops .opened) ++ u8 (stops .closed) ++ u8 (stops .skipped)
      let accepted (st : Stop) : List Nat :=
        if st.state = .closed then st.accepted else st.planned.map fun e =>
          (st.offers.map fun j => match s.handoffs.get j with
            | some h => if (s.lots.get h.slot).any (fun l => l.number == e.1) = true then h.accepted else 0
            | none => 0).sum
      let part (st : Stop) : List Byte := u8 n.val ++ wordBytes st.consignee ++ wordBytes st.mask ++ u16 st.budget
        ++ u16 st.limit ++ counted (fun e : (Word × Nat) × Nat => wordBytes e.1.1 ++ u16 e.1.2 ++ u16 e.2)
          (st.planned.zip (accepted st))
        ++ u8 st.state.code ++ flag st.outOfOrder ++ flag st.late ++ flag st.doorOver ++ flag st.short
        ++ opt 4 timeBytes st.openTime ++ opt 4 timeBytes st.closeTime ++ st.doorSecs.toList.flatMap u16
        ++ opt 2 u16 st.timer
      exec (.stopStatus p tag x) s = .next (answered p 0x2E tag .ok (route ++ opt 40 part (s.stops.get n)) s)) ∧
    (∀ (j : HIndex) (h : Handoff), indexIn 128 x = some j → s.handoffs.get j = some h → s.takes p 0x34 →
      let number : Word := match s.lots.get h.slot with
        | some l => l.number
        | none => 0
      exec (.handoffStatus p tag x) s = .next (answered p 0x34 tag .ok
        (u8 j.val ++ u8 h.slot.val ++ halfBytes h.route ++ u8 h.stop.val ++ wordBytes h.consignee ++ wordBytes h.mask
          ++ u16 h.q ++ u16 h.accepted ++ u16 h.refused ++ opt 4 wordBytes h.code
          ++ opt 1 (fun c : Condition => u8 c.code) h.cond ++ flag h.unplanned ++ flag h.a
          ++ opt 1 (fun r : EReason => u8 r.code) h.e ++ flag h.c ++ opt 27 Account.bytes h.snap
          ++ timeBytes h.offerTime ++ opt 4 timeBytes h.acceptTime ++ opt 4 timeBytes h.settleTime
          ++ opt 4 timeBytes h.endTime ++ u8 h.state.code ++ wordBytes number ++ opt 2 u16 h.ack
          ++ opt 37 (fun x : Proof × Half => x.1.bytes ++ halfBytes x.2) h.proof) s)) ∧
    (s.takes p 0x3C → exec (.claimList p tag) s = .next (answered p 0x3C tag .ok
      (counted Claim.entry s.claims ++ (match s.assessor with
        | none => [0, 0, 0, 0]
        | some a => 1 :: (match a.claim with
          | some n => 1 :: halfBytes (BitVec.ofNat 16 n)
          | none => [0, 0, 0]))) s)) ∧
    (4 ≤ x.toNat → s.takes p 0x10 → exec (.compartmentStatus p tag x) s = .next (answered p 0x10 tag .range [] s)) ∧
    (8 ≤ x.toNat → s.takes p 0x11 → exec (.probeStatus p tag x) s = .next (answered p 0x11 tag .range [] s)) ∧
    (4 ≤ x.toNat → s.takes p 0x14 → exec (.doorStatus p tag x) s = .next (answered p 0x14 tag .range [] s)) ∧
    (4 ≤ x.toNat → s.takes p 0x16 → exec (.defrostStatus p tag x) s = .next (answered p 0x16 tag .range [] s)) ∧
    (∀ y : Byte, ([1, 3, 8, 4, 4, 16][x.toNat]?).all (fun n => decide (n ≤ y.toNat)) = true → s.takes p 0x07 →
      exec (.settingsGet p tag x y) s = .next (answered p 0x07 tag .range [] s)) ∧
    (∀ lot : Word, s.takes p 0x24 →
      (lot = 0 ∨ 3 ≤ x.toNat → exec (.lotStatus p tag lot x) s = .next (answered p 0x24 tag .range [] s)) ∧
      (lot ≠ 0 → x.toNat ≤ 2 → s.lotNamed lot = none →
        exec (.lotStatus p tag lot x) s = .next (answered p 0x24 tag .unknown [] s))) ∧
    (64 ≤ x.toNat → s.takes p 0x25 → exec (.lotList p tag x) s = .next (answered p 0x25 tag .range [] s)) ∧
    (32 ≤ x.toNat → s.takes p 0x2E → exec (.stopStatus p tag x) s = .next (answered p 0x2E tag .range [] s)) ∧
    (128 ≤ x.toNat → s.takes p 0x34 → exec (.handoffStatus p tag x) s = .next (answered p 0x34 tag .range [] s)) ∧
    (∀ j : HIndex, indexIn 128 x = some j → s.handoffs.get j = none → s.takes p 0x34 →
      exec (.handoffStatus p tag x) s = .next (answered p 0x34 tag .unknown [] s))

/-- PROBE_CLEAR empties the fault latch and says whether it was SET; a probe above 7 is refused RANGE. WATCH_REARM
sets the armed flag and says whether it was set; a compartment above 3 is refused RANGE. -/
def Obligations.ProbeClearAndWatchRearm : Prop :=
  (∀ (p : Port) (tag probe : Byte) (s : State), s.takes p 0x12 →
     exec (.probeClear p tag probe) s = .next (
       if h : probe.toNat < 8 then
         let i : Probe := ⟨probe.toNat, h⟩
         answered p 0x12 tag .ok [if (s.probes.get i).latch.isSome then 1 else 0]
           (s.modProbe i fun x => { x with latch := none })
       else answered p 0x12 tag .range [] s)) ∧
  (∀ (p : Port) (tag compartment : Byte) (s : State), s.takes p 0x13 →
     exec (.watchRearm p tag compartment) s = .next (
       if h : compartment.toNat < 4 then
         let c : Comp := ⟨compartment.toNat, h⟩
         answered p 0x13 tag .ok [if (s.watches.get c).armed then 1 else 0]
           (s.modWatch c fun w => { w with armed := true })
       else answered p 0x13 tag .range [] s))

/-- DOOR_REARM clears the latch; a latch that was LATCHED is taken again at once, with cause REARM and DOOR_CHANGE
posted, when the door has a level and it differs from the latched one. A door above 3 is refused RANGE. That a latch
is sent as its state and then one part that may be absent is the model's reading (log 6). -/
def Obligations.DoorRearm : Prop :=
  (∀ (p : Port) (tag door : Byte) (s : State), 4 ≤ door.toNat → s.takes p 0x15 →
    exec (.doorRearm p tag door) s = .next (answered p 0x15 tag .range [] s)) ∧
  ∀ (p : Port) (tag door : Byte) (d : Comp) (s : State), indexIn 4 door = some d → s.takes p 0x15 →
    let x := s.doors.get d
    let isOpen := x.state = .opened ∨ x.state = .held
    let cleared := s.modDoor d fun x => { x with latch := none }
    let kind := if isOpen then x.period.bind fun o => o.kind else none
    ∃ t, exec (.doorRearm p tag door) s = .next (answered p 0x15 tag .ok
        (DoorLatch.bytes x.latch ++ DoorLatch.bytes (t.doors.get d).latch) t) ∧
      t = match x.latch with
        | none => cleared
        | some l =>
          if x.state ≠ .unsettled ∧ decide isOpen ≠ l.isOpen then
            (cleared.modDoor d fun x => { x with
              latch := some ⟨decide isOpen, s.seconds, kind, .rearm, 0⟩ }).post
              (.doorChange d (decide isOpen) s.seconds kind .rearm)
          else cleared

/-- DEFROST_ASK makes six checks in order; the first that fails defers the ask with its reason, the pool and the
state, and all holding grants the defrost with a fresh record and the held-hit count at 0. A compartment above 3 is
refused RANGE. -/
def Obligations.DefrostAsk : Prop :=
  (∀ (p : Port) (tag compartment : Byte) (s : State), 4 ≤ compartment.toNat → s.takes p 0x17 →
    exec (.defrostAsk p tag compartment) s = .next (answered p 0x17 tag .range [] s)) ∧
  ∀ (p : Port) (tag compartment : Byte) (c : Comp) (s : State), indexIn 4 compartment = some c → s.takes p 0x17 →
    let cfg := s.settings.comps.get c
    let a := s.defrosts.get c
    let w := (s.watches.get c).state
    let offered := s.handoffs.toList.any fun h => h.any fun h =>
      h.state == .offered && (s.lots.get h.slot).any fun l => l.comp == c
    let reason : Option DeferReason :=
      if cfg.enabled = false then some .disabled
      else if a.state ≠ .idle then some .defrosting
      else if (s.doors.get c).state ≠ .closed then some .door
      else if w = .excursion ∨ w = .recovering then some .watch
      else if a.pool < cfg.minGrant then some .pool
      else if offered = true then some .offer
      else none
    exec (.defrostAsk p tag compartment) s = .next (match reason with
      | some r => answered p 0x17 tag .deferred
          (BitVec.ofNat 8 r.code :: halfBytes (BitVec.ofNat 16 a.pool) ++ [BitVec.ofNat 8 a.state.code])
          (s.modDefrost c fun a => { a with lastAsk := some ⟨s.seconds, some r⟩ })
      | none => answered p 0x17 tag .ok
          (halfBytes (BitVec.ofNat 16 a.pool) ++ halfBytes (BitVec.ofNat 16 cfg.minGrant))
          ((s.modDefrost c fun a => { a with
            state := .active
            record := some ⟨s.seconds, a.pool, 0, 0, 0, none⟩
            lastAsk := some ⟨s.seconds, none⟩ }).modWatch c fun w => { w with heldHits := 0 }))

/-- DEFROST_END makes the state IDLE and keeps the pool and the record; in IDLE it is refused STATE, and a compartment
above 3 is refused RANGE. At REFILL_EXPIRY the pool gains the refill amount up to its maximum, in every defrost state,
and the timer restarts. A record that is absent, which no run shows, stands in the body as zeros (log 6). -/
def Obligations.DefrostEndAndRefill : Prop :=
  ∀ (p : Port) (tag compartment : Byte) (c : Comp) (s : State),
    (4 ≤ compartment.toNat → s.takes p 0x18 →
      exec (.defrostEnd p tag compartment) s = .next (answered p 0x18 tag .range [] s)) ∧
    (indexIn 4 compartment = some c → s.takes p 0x18 →
      exec (.defrostEnd p tag compartment) s = .next (
        if (s.defrosts.get c).state = .idle then answered p 0x18 tag .state [] s
        else answered p 0x18 tag .ok
          (BitVec.ofNat 8 (s.defrosts.get c).state.code :: (match (s.defrosts.get c).record with
            | some r => r.bytes
            | none => List.replicate 19 0))
          (s.modDefrost c fun a => { a with state := .idle }))) ∧
    (s.phase = .ready → exec (.refillExpiry c) s = .next (
      if (s.settings.comps.get c).refillInterval ≤ (s.defrosts.get c).refill then
        s.modDefrost c fun a => { a with
          pool := min (a.pool + (s.settings.comps.get c).refillAmount) (s.settings.comps.get c).poolMax
          refill := 0 }
      else s))

/-! ### Lots and the report slot -/

/-- The checks of the four requests that change the lot table, in their order. A lot number names the occupied slot
that holds it (lotNamed, here and in the statements below), and none where no slot does. -/
def Obligations.LotOrder : Prop :=
  (∀ (s : State) (number : Word),
    (∀ (i : Slot) (l : Lot), s.lotNamed number = some (i, l) ↔ s.lots.get i = some l ∧ l.number = number ∧
      ∀ (j : Slot) (m : Lot), j < i → s.lots.get j = some m → m.number ≠ number) ∧
    (s.lotNamed number = none ↔ ∀ (i : Slot) (l : Lot), s.lots.get i = some l → l.number ≠ number)) ∧
  ∀ (p : Port) (tag : Byte) (lot : Word) (cls compartment force : Byte) (quantity : Half) (s : State),
    (s.takes p 0x20 → answersWith (.lotLoad p tag lot cls compartment quantity) s p (
      if s.route.state ≠ .loading then .state
      else if lot = 0 ∨ 16 ≤ cls.toNat ∨ 4 ≤ compartment.toNat ∨ quantity = 0 then .range
      else if s.lots.toList.any (fun o => o.any fun l => l.number == lot) = true then .duplicate
      else if s.lots.toList.all Option.isSome = true then .full
      else .ok)) ∧
    (s.takes p 0x21 → answersWith (.lotMove p tag lot compartment) s p (
      if lot = 0 ∨ 4 ≤ compartment.toNat then .range
      else match s.lotNamed lot with
        | none => .unknown
        | some (_, l) =>
          if (l.state = .stowed ∨ l.state = .onBoard) ∧ l.qty.offered = 0 then
            if (indexIn 4 compartment).any (fun c => (s.settings.comps.get c).enabled) = true then .ok else .range
          else .state)) ∧
    (s.takes p 0x22 → answersWith (.lotWriteOff p tag lot quantity) s p (
      if lot = 0 then .range
      else match s.lotNamed lot with
        | none => .unknown
        | some (_, l) =>
          if l.state = .stowed ∨ l.state = .onBoard then
            if 1 ≤ quantity.toNat ∧ quantity.toNat ≤ l.qty.onBoard then .ok else .range
          else .state)) ∧
    (s.takes p 0x23 → answersWith (.lotRetire p tag lot force) s p (
      if lot = 0 ∨ 2 ≤ force.toNat then .range
      else match s.lotNamed lot with
        | none => .unknown
        | some (_, l) =>
          if s.route.state = .dispatched ∨ ¬ (l.state = .depleted ∨ l.state = .returned) then .state
          else if s.claims.any (fun c => l.handoffs.contains c.handoff &&
              (c.state == .lodged || c.state == .assessing)) = true then .inUse
          else if force = 0 ∧ l.handoffs.any (fun j => (s.handoffs.get j).any fun h => h.state == .settled &&
              h.settleTime.any fun t => decide (span t s.seconds ≤ (s.settings.classes.get l.cls).window * 3600)) = true
            then .windowOpen
          else .ok))

/-- A lot that passes the checks of LOT_LOAD takes the lowest FREE slot, with its record as R92 sets it. -/
def Obligations.LotLoad : Prop :=
  ∀ (p : Port) (tag : Byte) (lot : Word) (cls compartment : Byte) (quantity : Half) (k : ClassNo) (c : Comp) (i : Slot)
    (s : State), s.takes p 0x20 → s.route.state = .loading → lot ≠ 0 → quantity ≠ 0 → indexIn 16 cls = some k →
    indexIn 4 compartment = some c → (∀ (j : Slot) (l : Lot), s.lots.get j = some l → l.number ≠ lot) →
    s.lots.get i = none → (∀ j : Slot, j < i → s.lots.get j ≠ none) →
    exec (.lotLoad p tag lot cls compartment quantity) s = .next (answered p 0x20 tag .ok [BitVec.ofNat 8 i.val]
      { s with lots := setAt s.lots i (some
        { number := lot, cls := k, comp := c
          qty := { loaded := quantity.toNat, onBoard := quantity.toNat, offered := 0, delivered := 0, returned := 0,
                   writtenOff := 0 }
          state := .stowed, joined := false
          acct := { dose := 0, waived := 0, saturated := false, shocks := 0, warm := false, unverified := 0,
                    airSecs := 0, doorSecs := 0, peak := none, excursions := 0, openings := 0, gaps := 0 }
          dispatched := none, returned := none, handoffs := [], openClaims := 0 }) })

/-- LOT_MOVE changes the lot's compartment and nothing else; LOT_WRITE_OFF moves cartons from on board to written off,
and an emptied lot becomes DEPLETED. -/
def Obligations.LotMoveAndWriteOff : Prop :=
  ∀ (p : Port) (tag : Byte) (lot : Word) (compartment : Byte) (quantity : Half) (i : Slot) (l : Lot) (s : State),
    lot ≠ 0 → s.lotNamed lot = some (i, l) → (l.state = .stowed ∨ l.state = .onBoard) →
    (∀ c : Comp, s.takes p 0x21 → indexIn 4 compartment = some c → l.qty.offered = 0 →
      (s.settings.comps.get c).enabled = true →
      exec (.lotMove p tag lot compartment) s = .next (answered p 0x21 tag .ok
        [BitVec.ofNat 8 l.comp.val, BitVec.ofNat 8 c.val]
        { s with lots := setAt s.lots i (some { l with comp := c }) })) ∧
    (s.takes p 0x22 → 1 ≤ quantity.toNat → quantity.toNat ≤ l.qty.onBoard →
      let left := l.qty.onBoard - quantity.toNat
      let state := if left = 0 ∧ l.qty.offered = 0 then .depleted else l.state
      exec (.lotWriteOff p tag lot quantity) s = .next (answered p 0x22 tag .ok
        (halfBytes (BitVec.ofNat 16 left) ++ halfBytes (BitVec.ofNat 16 (l.qty.writtenOff + quantity.toNat))
          ++ [BitVec.ofNat 8 (LotState.code state)])
        { s with lots := setAt s.lots i (some { l with
          qty := { l.qty with onBoard := left, writtenOff := l.qty.writtenOff + quantity.toNat }
          state := state }) }))

/-- A lot that may be retired leaves its slot FREE, and its handoff records and the claims on them are freed; every
other slot, handoff and claim is kept. -/
def Obligations.LotRetire : Prop :=
  ∀ (p : Port) (tag : Byte) (lot : Word) (force : Byte) (i : Slot) (l : Lot) (s : State),
    s.takes p 0x23 → lot ≠ 0 →
    (force = 1 ∨ force = 0 ∧ ∀ j ∈ l.handoffs, ∀ h, s.handoffs.get j = some h → h.state = .settled →
      ∀ t, h.settleTime = some t → (s.settings.classes.get l.cls).window * 3600 < span t s.seconds) →
    s.lotNamed lot = some (i, l) → s.route.state ≠ .dispatched →
    (l.state = .depleted ∨ l.state = .returned) →
    (∀ c ∈ s.claims, c.handoff ∈ l.handoffs → c.state = .decided ∨ c.state = .withdrawn) →
    ∃ t, exec (.lotRetire p tag lot force) s = .next (answered p 0x23 tag .ok
        [BitVec.ofNat 8 i.val, BitVec.ofNat 8 l.handoffs.length,
         BitVec.ofNat 8 (s.claims.countP fun c => l.handoffs.contains c.handoff)] t) ∧
      t = { s with lots := setAt s.lots i none, handoffs := t.handoffs, claims := t.claims, assessor := t.assessor } ∧
      t.claims = s.claims.filter (fun c => !l.handoffs.contains c.handoff) ∧
      (∀ j : HIndex, t.handoffs.get j = if j ∈ l.handoffs then none else s.handoffs.get j) ∧
      t.assessor = s.assessor.map fun a => { a with
        claim := a.claim.filter fun n =>
          !(s.claims.any fun c => c.number == n && l.handoffs.contains c.handoff) }

/-- REPORT_LOT by the slot: FREE latches a copy; the holder's own lot is PENDING while COMPOSING and gives its pages
when READY, the last of them freeing the slot; any other request is refused BUSY with the slot state. The pages are
laid out as pageLayouts of Safety spells out (R184). -/
def Obligations.ReportLot : Prop :=
  pageLayouts ∧
  ∀ (p : Port) (tag : Byte) (lot : Word) (page : Byte) (s : State), s.takes p 0x26 →
    exec (.reportLot p tag lot page) s = .next (if lot = 0 then answered p 0x26 tag .range [] s else match s.report with
      | none => match s.lotNamed lot with
        | none => answered p 0x26 tag .unknown [] s
        | some (i, l) =>
          let copies := l.handoffs.filterMap fun j => (s.handoffs.get j).map fun h => (j, h)
          answered p 0x26 tag .pending [BitVec.ofNat 8 (1 + (copies.length + 3) / 4)]
            { s with report := some { holder := p, lot := l.number, time := s.seconds, slot := i, copy := l
                                      handoffs := copies, timer := none } }
      | some r =>
        let pages := 1 + (r.handoffs.length + 3) / 4
        if r.holder = p ∧ r.lot = lot then
          match r.timer with
          | none => answered p 0x26 tag .pending [BitVec.ofNat 8 pages] s
          | some _ =>
            if pages ≤ page.toNat then answered p 0x26 tag .range [] s
            else answered p 0x26 tag .ok (r.page page.toNat)
              (if page.toNat + 1 = pages then { s with report := none } else s)
        else answered p 0x26 tag .busy [if r.timer = none then 1 else 2] s)

/-! ### Routes and stops -/

/-- ROUTE_BEGIN removes every stop record and makes the route LOADING, or is refused STATE. The checks of STOP_LOAD in
their order; a stop that passes them all enters the table PLANNED, its flags clear. -/
def Obligations.RouteBeginAndStopLoad : Prop :=
  (∀ (p : Port) (tag : Byte) (number : Half) (s : State), s.takes p 0x28 →
     exec (.routeBegin p tag number) s = .next (
       if s.route.state = .noRoute ∨ s.route.state = .returned then
         answered p 0x28 tag .ok (halfBytes number ++ [BitVec.ofNat 8 (s.lots.toList.countP Option.isSome)])
           { s with
             stops := Vector.replicate 32 none
             route := { number := some number, state := .loading, beginTime := some s.seconds, dispatchTime := none,
                        returnTime := none, openStop := none } }
       else answered p 0x28 tag .state [] s)) ∧
  (∀ (p : Port) (tag stop : Byte) (code mask : Word) (budget limit : Half) (planned : List (Word × Half)) (s : State),
     s.takes p 0x29 →
     let range := ∃ e ∈ planned, e.1 = 0 ∨ e.2 = 0
     let unknown := ∃ e ∈ planned, s.lotNamed e.1 = none
     (s.route.state ≠ .loading → answersWith (.stopLoad p tag stop code mask budget limit planned) s p .state) ∧
     (s.route.state = .loading → (32 ≤ stop.toNat ∨ 8 < planned.length ∨ range) →
       answersWith (.stopLoad p tag stop code mask budget limit planned) s p .range) ∧
     (s.route.state = .loading → planned.length ≤ 8 → ¬ range → ∀ n : StopNo, indexIn 32 stop = some n →
       (if s.stops.get n ≠ none ∨ ¬ (planned.map Prod.fst).Nodup then
         answersWith (.stopLoad p tag stop code mask budget limit planned) s p .duplicate
       else if unknown then answersWith (.stopLoad p tag stop code mask budget limit planned) s p .unknown
       else exec (.stopLoad p tag stop code mask budget limit planned) s = .next (answered p 0x29 tag .ok
         [BitVec.ofNat 8 n.val, BitVec.ofNat 8 (s.stops.toList.countP Option.isSome + 1)]
         { s with stops := setAt s.stops n (some
           { consignee := code, mask := mask, budget := budget.toNat, limit := limit.toNat
             planned := planned.map fun e => (e.1, e.2.toNat)
             state := .planned, outOfOrder := false, late := false, doorOver := false, short := false
             openTime := none, closeTime := none, doorSecs := Vector.replicate 4 0, timer := none, offers := []
             accepted := [] }) }))))

/-- The checks of DISPATCH in their order; when all hold each STOWED lot becomes ON_BOARD with a receipt of now, the
route's number and its account, every other lot is left alone, and the route is DISPATCHED. A route number, which a
LOADING route always has, is read as 0 where it is absent (log 15); the order of the doors in the body is the model's
(log 6). -/
def Obligations.Dispatch : Prop :=
  ∀ (p : Port) (tag : Byte) (s : State), s.takes p 0x2A →
    let open_ := (List.finRange 4).filter fun d : Comp => decide ((s.doors.get d).state ≠ .closed)
    let stowed := s.lots.toList.countP fun o => o.any fun l => l.state == .stowed
    exec (.dispatch p tag) s = .next (
      if s.route.state ≠ .loading then answered p 0x2A tag .state [] s
      else if s.clockUnset = true then answered p 0x2A tag .clockUnset [] s
      else if open_ ≠ [] then
        answered p 0x2A tag .doorOpen (BitVec.ofNat 8 open_.length :: open_.map fun d => BitVec.ofNat 8 d.val) s
      else if stowed = 0 then answered p 0x2A tag .state [] s
      else answered p 0x2A tag .ok (wordBytes s.seconds ++ [BitVec.ofNat 8 stowed])
        { s with
          lots := mapV (Option.map fun l : Lot => if l.state = .stowed then
            { l with state := .onBoard, dispatched := some ⟨s.seconds, s.route.number.getD 0, l.acct⟩ } else l) s.lots
          route := { s.route with state := .dispatched, dispatchTime := some s.seconds } })

/-- RETURN is refused STATE unless the route is DISPATCHED with no stop OPEN; else PLANNED stops are SKIPPED, each
ON_BOARD lot is RETURNED with a receipt and its cartons counted as returned, and the route is RETURNED. -/
def Obligations.Return : Prop :=
  ∀ (p : Port) (tag : Byte) (s : State), s.takes p 0x2B →
    let planned := s.stops.toList.countP fun o => o.any fun st => st.state == .planned
    let onBoard := s.lots.toList.countP fun o => o.any fun l => l.state == .onBoard
    exec (.vanReturn p tag) s = .next (
      if s.route.state = .dispatched ∧ s.route.openStop = none then
        answered p 0x2B tag .ok (wordBytes s.seconds ++ [BitVec.ofNat 8 planned, BitVec.ofNat 8 onBoard])
          { s with
            stops := mapV (Option.map fun st : Stop =>
              if st.state = .planned then { st with state := .skipped } else st) s.stops
            lots := mapV (Option.map fun l : Lot => if l.state = .onBoard then
              { l with
                state := .returned, returned := some ⟨s.seconds, l.qty.onBoard, l.acct⟩
                qty := { l.qty with onBoard := 0, returned := l.qty.returned + l.qty.onBoard } } else l) s.lots
            route := { s.route with state := .returned, returnTime := some s.seconds } }
      else answered p 0x2B tag .state [] s)

/-- The checks of STOP_OPEN in their order; when all hold the stop is OPEN from now with its timer, OUT_OF_ORDER is
set if a lower-numbered stop is PLANNED, and the stop accumulators are 0. -/
def Obligations.StopOpen : Prop :=
  ∀ (p : Port) (tag stop : Byte) (s : State), s.takes p 0x2C →
    exec (.stopOpen p tag stop) s = .next (match indexIn 32 stop with
      | none => answered p 0x2C tag .range [] s
      | some n =>
        let below := (List.finRange 32).any fun m : StopNo =>
          decide (m < n) && (s.stops.get m).any fun st => st.state == .planned
        if s.route.state ≠ .dispatched then answered p 0x2C tag .state [] s
        else match s.stops.get n with
          | none => answered p 0x2C tag .unknown [] s
          | some st =>
            if s.route.openStop = none ∧ st.state = .planned then
              answered p 0x2C tag .ok
                (wordBytes s.seconds ++ halfBytes (BitVec.ofNat 16 st.limit) ++ [if below then 1 else 0])
                { s with
                  stops := setAt s.stops n (some { st with
                    state := .opened, openTime := some s.seconds, outOfOrder := below
                    timer := if 0 < st.limit then some st.limit else none })
                  route := { s.route with openStop := some n }
                  doors := mapV (fun d => { d with stopAcc := 0 }) s.doors }
            else answered p 0x2C tag .state [] s)

/-- STOP_CLOSE with no stop OPEN is refused STATE; else the stop's OFFERED handoffs lapse and their cartons come back
on board, its PROOF_READY ones settle with C clear, it is CLOSED now with SHORT judged on the quantities accepted, and
the route names no stop. Whole seconds still in a stop accumulator are counted first, as STOP_DOOR_SECOND counts them,
door by door, so that DOOR_OVER may be posted (log 14). The body follows log 6; that a stop keeps its accepted
quantities from here on is the model's choice (log 14), and so is the lesser quantity where fewer cartons are on offer
(log 15). -/
def Obligations.StopClose : Prop :=
  ∀ (p : Port) (tag : Byte) (s : State), s.takes p 0x2D →
    (s.route.openStop = none → exec (.stopClose p tag) s = .next (answered p 0x2D tag .state [] s)) ∧
    (∀ (n : StopNo) (st : Stop), s.route.openStop = some n → s.stops.get n = some st →
      (∀ d : Comp, (s.doors.get d).stopAcc < 1000) →
      let count (x : HandoffState) : Nat := st.offers.countP fun j => (s.handoffs.get j).any fun h => h.state == x
      ∃ t, exec (.stopClose p tag) s = .next (answered p 0x2D tag .ok
          (match t.stops.get n with
            | some now => u8 n.val ++ flag now.outOfOrder ++ flag now.late ++ flag now.doorOver ++ flag now.short
              ++ timeBytes s.seconds ++ u32 now.doorSecs.toList.sum ++ u8 (count .offered) ++ u8 (count .proofReady)
              ++ counted (fun e : (Word × Nat) × Nat => u16 e.1.2 ++ u16 e.2) (now.planned.zip now.accepted)
            | none => []) t) ∧
        t = { s with
          handoffs := t.handoffs, lots := t.lots, stops := t.stops, route := { s.route with openStop := none }
          doors := mapV (fun d => { d with stopAcc := 0 }) s.doors } ∧
        (∀ j : HIndex, t.handoffs.get j = (s.handoffs.get j).map fun h =>
          if j ∈ st.offers then match h.state with
            | .offered => { h with state := .lapsed, endTime := some s.seconds, ack := none }
            | .proofReady => { h with state := .settled, settleTime := some s.seconds, ack := none }
            | _ => h
          else h) ∧
        (∀ m : StopNo, m ≠ n → t.stops.get m = s.stops.get m) ∧
        (let accepted := st.planned.map fun e => t.acceptedAt st.offers e.1
         t.stops.get n = some { st with
           state := .closed, closeTime := some s.seconds, timer := none, accepted := accepted
           short := st.short || (st.planned.zip accepted).any fun e => decide (e.2 < e.1.2) }) ∧
        (∀ i : Slot, s.lots.get i = none → t.lots.get i = none) ∧
        (∀ (i : Slot) (l : Lot), s.lots.get i = some l →
          t.lots.get i = some { l with qty := l.qty.backOnBoard (s.cartonsOffered st.offers i) })) ∧
    (∀ (n : StopNo) (st : Stop) (d : Comp), s.route.openStop = some n → s.stops.get n = some st →
      1000 ≤ (s.doors.get d).stopAcc → (∀ e : Comp, e < d → (s.doors.get e).stopAcc < 1000) →
      ∃ t, exec (.stopDoorSecond d) s = .next t ∧ t.takes p 0x2D ∧
        (t.doors.get d).stopAcc = (s.doors.get d).stopAcc - 1000 ∧
        exec (.stopClose p tag) s = exec (.stopClose p tag) t)

/-- When the stop timer of the OPEN stop runs out it stops, and LATE is set with STOP_LATE posted if it was clear.
When an ack timer runs out an OFFERED handoff lapses, with its cartons back on board and HANDOFF_LAPSED posted, and a
PROOF_READY one settles with C clear and no notice. Composition completes: the slot is READY, its discard timer
starts, and REPORT_READY goes to the holder alone. When the discard timer expires the slot is FREE. An open time,
which the OPEN stop always has, is read as 0 where it is absent (log 15). -/
def Obligations.Timers : Prop :=
  (∀ (n : StopNo) (st : Stop) (s : State), s.phase = .ready → s.route.openStop = some n → s.stops.get n = some st →
     st.timer = some 0 →
     let t := s.modStop n fun st => { st with timer := none, late := true }
     exec .stopTimerExpiry s = .next (if st.late then t else t.post (.stopLate n (st.openTime.getD 0) st.limit))) ∧
  (∀ (j : HIndex) (h : Handoff) (s : State), s.phase = .ready → s.handoffs.get j = some h → h.ack = some 0 →
     (∀ l : Lot, h.state = .offered → s.lots.get h.slot = some l → h.q ≤ l.qty.offered →
       exec (.ackTimerExpiry j) s = .next (State.post { s with
         handoffs := setAt s.handoffs j (some { h with state := .lapsed, endTime := some s.seconds, ack := none })
         lots := setAt s.lots h.slot (some { l with
           qty := { l.qty with offered := l.qty.offered - h.q, onBoard := l.qty.onBoard + h.q } }) }
         (.handoffLapsed j l.number h.stop h.q))) ∧
     (h.state = .proofReady → exec (.ackTimerExpiry j) s = .next { s with
       handoffs := setAt s.handoffs j (some
         { h with state := .settled, settleTime := some s.seconds, ack := none }) })) ∧
  (∀ (r : Report) (s : State), s.phase = .ready → s.report = some r →
     (r.timer = none → exec .compositionCompletion s = .next { s with
       report := some { r with timer := some s.settings.general.discardTime }
       ports := modAt s.ports r.holder
         (PortState.enqueue ⟨.reportReady r.lot (1 + (r.handoffs.length + 3) / 4), s.seconds⟩) }) ∧
     (r.timer = some 0 → exec .discardTimerExpiry s = .next { s with report := none }))

/-! ### Handoffs -/

/-- The checks of HANDOFF_OFFER in their order; when all hold a record OFFERED takes the lowest free index, the lot's
cartons go on offer, and the ack timer starts. A route number, which a DISPATCHED route always has, is read as 0 where
it is absent (log 15). -/
def Obligations.HandoffOffer : Prop :=
  ∀ (p : Port) (tag : Byte) (lot : Word) (quantity : Half) (s : State), s.takes p 0x30 →
    let c := Instr.handoffOffer p tag lot quantity
    (s.route.state ≠ .dispatched ∨ s.route.openStop = none → answersWith c s p .state) ∧
    ∀ (n : StopNo) (st : Stop), s.route.state = .dispatched → s.route.openStop = some n → s.stops.get n = some st →
      if lot = 0 ∨ quantity = 0 then answersWith c s p .range
      else match s.lotNamed lot with
        | none => answersWith c s p .unknown
        | some (i, l) =>
          if l.state ≠ .onBoard ∨ l.qty.onBoard < quantity.toNat then answersWith c s p .range
          else if (∀ j : HIndex, s.handoffs.get j ≠ none) ∨ 16 ≤ l.handoffs.length then answersWith c s p .full
          else ∀ j : HIndex, s.handoffs.get j = none → (∀ k : HIndex, k < j → s.handoffs.get k ≠ none) →
            let window := s.settings.general.handoffWindow
            let unplanned := !(st.planned.any fun e => e.1 == l.number)
            let left := l.qty.onBoard - quantity.toNat
            exec c s = .next (answered p 0x30 tag .ok
              ([BitVec.ofNat 8 j.val, if unplanned then 1 else 0] ++ halfBytes (BitVec.ofNat 16 window)
                ++ halfBytes (BitVec.ofNat 16 left))
              { s with
                handoffs := setAt s.handoffs j (some
                  { slot := i, route := s.route.number.getD 0, stop := n, consignee := st.consignee, mask := st.mask
                    q := quantity.toNat, accepted := 0, refused := 0, code := none, cond := none
                    unplanned := unplanned, a := false, e := none, c := false, snap := none
                    offerTime := s.seconds, acceptTime := none, settleTime := none, endTime := none, proof := none
                    ack := some window, state := .offered })
                lots := setAt s.lots i (some { l with
                  qty := { l.qty with onBoard := left, offered := l.qty.offered + quantity.toNat }
                  handoffs := l.handoffs ++ [j] })
                stops := setAt s.stops n (some { st with offers := st.offers ++ [j] }) })

/-- HANDOFF_ACCEPT is refused RANGE for an index above 127 or a condition that is neither GOOD nor NOTED, UNKNOWN for
a free entry, STATE with the state found for a handoff that is not OFFERED, and RANGE for more than is on offer, in
this order. Of an OFFERED handoff: a code that does not match only raises E; a matching refusal brings the cartons
back; a matching accept delivers them, takes the snapshot, builds the proof with its check value, and posts
PROOF_READY. That the proof record holds the unscheduled-openings count (R42), which its 35 bytes do not carry, is the
model's choice (log 21). -/
def Obligations.HandoffAccept : Prop :=
  (∀ (p : Port) (tag index : Byte) (code : Word) (accepted : Half) (condition : Byte) (s : State), s.takes p 0x31 →
    let c := Instr.handoffAccept p tag index code accepted condition
    (128 ≤ index.toNat ∨ 2 ≤ condition.toNat → exec c s = .next (answered p 0x31 tag .range [] s)) ∧
    ∀ j : HIndex, indexIn 128 index = some j → condition.toNat ≤ 1 →
      (s.handoffs.get j = none → exec c s = .next (answered p 0x31 tag .unknown [] s)) ∧
      ∀ h : Handoff, s.handoffs.get j = some h →
        (h.state ≠ .offered →
          exec c s = .next (answered p 0x31 tag .state [BitVec.ofNat 8 h.state.code] s)) ∧
        (h.state = .offered → h.q < accepted.toNat → exec c s = .next (answered p 0x31 tag .range [] s))) ∧
  ∀ (p : Port) (tag index : Byte) (code : Word) (accepted : Half) (condition : Byte) (cond : Condition) (j : HIndex)
    (h : Handoff) (l : Lot) (s : State), s.takes p 0x31 → indexIn 128 index = some j →
    (condition = 0 ∧ cond = .good ∨ condition = 1 ∧ cond = .noted) → s.handoffs.get j = some h → h.state = .offered →
    accepted.toNat ≤ h.q → s.lots.get h.slot = some l → h.q ≤ l.qty.offered →
    let c := Instr.handoffAccept p tag index code accepted condition
    let a := accepted.toNat
    if (code ^^^ h.consignee) &&& h.mask ≠ 0 then
      exec c s = .next (answered p 0x31 tag .ok (0 :: wordBytes code)
        { s with handoffs := setAt s.handoffs j (some { h with e := some (h.e.getD .idMismatch) }) })
    else if a = 0 then
      exec c s = .next (answered p 0x31 tag .ok (1 :: halfBytes (BitVec.ofNat 16 (l.qty.onBoard + h.q)))
        { s with
          handoffs := setAt s.handoffs j (some { h with
            a := true, code := some code, cond := some cond, acceptTime := some s.seconds, refused := h.q, ack := none
            state := .refused })
          lots := setAt s.lots h.slot (some { l with
            qty := { l.qty with offered := l.qty.offered - h.q, onBoard := l.qty.onBoard + h.q } }) })
    else
      let onBoard := l.qty.onBoard + (h.q - a)
      let offered := l.qty.offered - h.q
      ∃ proof : Proof,
        (proof.index = j ∧ proof.route = h.route ∧ proof.stop = h.stop ∧ proof.lot = l.number ∧
          proof.cls = l.cls ∧ proof.accepted = a ∧
          proof.refused = h.q - a ∧ proof.code = code ∧ proof.acceptTime = s.seconds ∧ proof.cond = cond ∧
          proof.dm = min (l.acct.dose / 960) 65535 ∧ proof.shocks = l.acct.shocks ∧
          proof.excursions = l.acct.excursions ∧ proof.openings = l.acct.openings ∧
          proof.unverified = l.acct.unverified ∧ proof.peak = l.acct.peak ∧
          (∀ r, l.dispatched = some r → proof.carrierDm = min ((l.acct.dose - r.snap.dose) / 960) 65535) ∧
          proof.a = true ∧ proof.e = h.e ∧ proof.unplanned = h.unplanned) ∧
        let check := crc16 proof.bytes
        exec c s = .next (answered p 0x31 tag .ok (2 :: proof.bytes ++ halfBytes check)
          (State.post { s with
            handoffs := setAt s.handoffs j (some { h with
              a := true, code := some code, cond := some cond, acceptTime := some s.seconds, accepted := a
              refused := h.q - a, snap := some l.acct, proof := some (proof, check)
              ack := some s.settings.general.handoffWindow, state := .proofReady })
            lots := setAt s.lots h.slot (some { l with
              qty := { l.qty with offered := offered, delivered := l.qty.delivered + a, onBoard := onBoard }
              state := if onBoard = 0 ∧ offered = 0 then .depleted else l.state }) }
            (.proofReady j l.number check)))

/-- HANDOFF_COPIED of a PROOF_READY handoff settles it with C when the value equals the check value, and only raises E
when it does not; in another state it is refused STATE with the state found. HANDOFF_WITHDRAW ends an OFFERED handoff
and brings its cartons back; a handoff that was accepted answers TOO_LATE and one that ended otherwise answers STATE.
An index above 127 is refused RANGE by both, and a free entry UNKNOWN. A check value, which a PROOF_READY handoff
always has, is read as 0 where it is absent (log 15). -/
def Obligations.HandoffCopiedAndWithdraw : Prop :=
  (∀ (p : Port) (tag index : Byte) (value : Half) (s : State),
     let refused (status : Status) : Prop :=
       (s.takes p 0x32 → exec (.handoffCopied p tag index value) s = .next (answered p 0x32 tag status [] s)) ∧
       (s.takes p 0x33 → exec (.handoffWithdraw p tag index) s = .next (answered p 0x33 tag status [] s))
     (128 ≤ index.toNat → refused .range) ∧
     (∀ j : HIndex, indexIn 128 index = some j → s.handoffs.get j = none → refused .unknown)) ∧
  (∀ (p : Port) (tag index : Byte) (value : Half) (j : HIndex) (h : Handoff) (s : State), s.takes p 0x32 →
     indexIn 128 index = some j → s.handoffs.get j = some h →
     exec (.handoffCopied p tag index value) s = .next (
       if h.state ≠ .proofReady then answered p 0x32 tag .state [BitVec.ofNat 8 h.state.code] s
       else
         let check := (h.proof.map Prod.snd).getD 0
         if value = check then answered p 0x32 tag .ok [0] { s with
           handoffs := setAt s.handoffs j (some
             { h with state := .settled, settleTime := some s.seconds, ack := none, c := true }) }
         else answered p 0x32 tag .ok (1 :: halfBytes value ++ halfBytes check) { s with
           handoffs := setAt s.handoffs j (some { h with e := some (h.e.getD .copyMismatch) }) })) ∧
  (∀ (p : Port) (tag index : Byte) (j : HIndex) (h : Handoff) (s : State), s.takes p 0x33 →
     indexIn 128 index = some j → s.handoffs.get j = some h →
     (∀ l : Lot, h.state = .offered → s.lots.get h.slot = some l → h.q ≤ l.qty.offered →
       exec (.handoffWithdraw p tag index) s = .next (answered p 0x33 tag .ok
         (halfBytes (BitVec.ofNat 16 (l.qty.onBoard + h.q))) { s with
           handoffs := setAt s.handoffs j (some
             { h with state := .withdrawn, endTime := some s.seconds, ack := none })
           lots := setAt s.lots h.slot (some { l with
             qty := { l.qty with offered := l.qty.offered - h.q, onBoard := l.qty.onBoard + h.q } }) })) ∧
     (h.state = .proofReady ∨ h.state = .settled →
       exec (.handoffWithdraw p tag index) s = .next (answered p 0x33 tag .tooLate [] s)) ∧
     (h.state = .lapsed ∨ h.state = .withdrawn ∨ h.state = .refused →
       exec (.handoffWithdraw p tag index) s = .next (answered p 0x33 tag .state [] s)))

/-! ### Claims -/

/-- The checks of CLAIM_LODGE in their order; a handoff that is SETTLED always has a settle time and its lot in the
table. A STATE refusal carries the state found, a DUPLICATE refusal the number and state of the claim that holds the
handoff, and a TOO_LATE refusal the settle time and the instant at which the window ended; a refusal changes nothing
else. -/
def Obligations.ClaimLodgeOrder : Prop :=
  ∀ (p : Port) (tag index : Byte) (code : Word) (quantity : Half) (s : State), s.takes p 0x38 →
    let refused (status : Status) (body : List Byte) : Prop :=
      exec (.claimLodge p tag index code quantity) s = .next (answered p 0x38 tag status body s)
    (128 ≤ index.toNat ∨ quantity = 0 → refused .range []) ∧
    ∀ j : HIndex, indexIn 128 index = some j → quantity ≠ 0 →
      (s.handoffs.get j = none → refused .unknown []) ∧
      ∀ h : Handoff, s.handoffs.get j = some h →
        (h.state ≠ .settled → refused .state [BitVec.ofNat 8 h.state.code]) ∧
        ∀ (settled : Time) (l : Lot), h.state = .settled → h.settleTime = some settled →
          s.lots.get h.slot = some l →
          let window := (s.settings.classes.get l.cls).window * 3600
          if (code ^^^ h.consignee) &&& h.mask ≠ 0 then refused .claimant []
          else if h.accepted < quantity.toNat then refused .range []
          else match s.claims.find? fun c => c.handoff == j && c.state != .withdrawn with
            | some c => refused .duplicate (halfBytes (BitVec.ofNat 16 c.number) ++ [BitVec.ofNat 8 c.state.code])
            | none =>
              if window < span settled s.seconds then
                refused .tooLate (wordBytes settled ++ wordBytes (settled + BitVec.ofNat 32 window))
              else if 16 ≤ s.claims.length then refused .full []
              else answersWith (.claimLodge p tag index code quantity) s p .ok

/-- An accepted claim joins the end of the lodging order with a number that no entry holds and that is the next claim
number where that one is free; the lot's open claim count rises by one. A BUSY assessor leaves it LODGED; an IDLE one
with no other LODGED claim starts on it, with copies of the handoff and the dispatch receipt. -/
def Obligations.ClaimLodge : Prop :=
  ∀ (p : Port) (tag index : Byte) (code : Word) (quantity : Half) (j : HIndex) (h : Handoff) (l : Lot) (settled : Time)
    (snap : Account) (r : DispatchReceipt) (s : State), s.takes p 0x38 → indexIn 128 index = some j → quantity ≠ 0 →
    s.handoffs.get j = some h → h.state = .settled → h.settleTime = some settled → s.lots.get h.slot = some l →
    h.snap = some snap → l.dispatched = some r →
    (code ^^^ h.consignee) &&& h.mask = 0 → quantity.toNat ≤ h.accepted →
    (∀ c ∈ s.claims, c.handoff = j → c.state = .withdrawn) →
    span settled s.seconds ≤ (s.settings.classes.get l.cls).window * 3600 → s.claims.length < 16 →
    1 ≤ s.nextClaim → s.nextClaim ≤ 65535 →
    ∃ (n : Nat) (c : Claim) (t : State), exec (.claimLodge p tag index code quantity) s = .next (answered p 0x38 tag .ok
        (halfBytes (BitVec.ofNat 16 n) ++ wordBytes s.seconds ++ [BitVec.ofNat 8 (s.claims.countP fun c =>
          c.state == .lodged || c.state == .assessing)]) t) ∧
      1 ≤ n ∧ n ≤ 65535 ∧ (∀ c ∈ s.claims, c.number ≠ n) ∧
      ((∀ c ∈ s.claims, c.number ≠ s.nextClaim) → n = s.nextClaim) ∧
      c = { number := n, handoff := j, lot := l.number, claimant := code, quantity := quantity.toNat,
            lodgeTime := s.seconds, state := .lodged, verdict := none, reason := none, figures := none,
            decideTime := none, endTime := none, fetched := false } ∧
      t = { s with
        claims := t.claims, assessor := t.assessor, nextClaim := if n = 65535 then 1 else n + 1
        lots := setAt s.lots h.slot (some { l with openClaims := l.openClaims + 1 }) } ∧
      (s.assessor ≠ none → t.assessor = s.assessor ∧ t.claims = s.claims ++ [c]) ∧
      (s.assessor = none → (∀ c ∈ s.claims, c.state ≠ .lodged) →
        t.claims = s.claims ++ [{ c with state := .assessing }] ∧
        t.assessor = some { claim := some n, start := s.seconds, discard := false, snap := snap, a := h.a, e := h.e,
                            c := h.c, accepted := h.accepted, dispatchSnap := r.snap,
                            doseLimit := (s.settings.classes.get l.cls).doseLimit,
                            shockLimit := (s.settings.classes.get l.cls).shockLimit,
                            unverifiedLimit := (s.settings.classes.get l.cls).unverifiedLimit })

/-- CLAIM_WITHDRAW, CLAIM_FETCH and CLAIM_CLEAR of a claim in the table act by its state; the claim number 0 is
refused RANGE, and a number that no claim holds UNKNOWN. A claim number names the claim that holds it. The bodies of
CLAIM_FETCH and CLAIM_CLEAR follow log 6 where the spec does not lay them out. The end time of a WITHDRAWN claim and
the decide time, verdict and figures of a DECIDED one are always there; a body reads them as 0 where one is absent
(log 15). -/
def Obligations.ClaimRequests : Prop :=
  (∀ (s : State) (number : Nat),
    (∀ c : Claim, s.claimNamed number = some c ↔ c.number = number ∧ ∃ before after : List Claim,
      s.claims = before ++ c :: after ∧ ∀ x ∈ before, x.number ≠ number) ∧
    (s.claimNamed number = none ↔ ∀ c ∈ s.claims, c.number ≠ number)) ∧
  (∀ (p : Port) (tag : Byte) (number : Half) (s : State),
    let refused (status : Status) : Prop :=
      (s.takes p 0x39 → exec (.claimWithdraw p tag number) s = .next (answered p 0x39 tag status [] s)) ∧
      (s.takes p 0x3A → exec (.claimFetch p tag number) s = .next (answered p 0x3A tag status [] s)) ∧
      (s.takes p 0x3B → exec (.claimClear p tag number) s = .next (answered p 0x3B tag status [] s))
    (number = 0 → refused .range) ∧ (number ≠ 0 → s.claimNamed number.toNat = none → refused .unknown)) ∧
  ∀ (p : Port) (tag : Byte) (number : Half) (c : Claim) (s : State), number ≠ 0 → s.claimNamed number.toNat = some c →
    let state := BitVec.ofNat 8 c.state.code
    let live := c.state = .lodged ∨ c.state = .assessing
    let unclaim (s : State) : State := match s.handoffs.get c.handoff with
      | some h => s.modLot h.slot fun l => { l with openClaims := l.openClaims - 1 }
      | none => s
    (s.takes p 0x39 → exec (.claimWithdraw p tag number) s = .next (
      if live then answered p 0x39 tag .ok [state]
        (unclaim { s with
          claims := s.claims.map fun x => if x.number = c.number then
            { x with state := .withdrawn, endTime := some s.seconds } else x
          assessor := if c.state = .assessing then s.assessor.map fun a =>
            if a.claim = some c.number then { a with discard := true } else a else s.assessor })
      else answered p 0x39 tag .state [state] s)) ∧
    (s.takes p 0x3A → exec (.claimFetch p tag number) s = .next (match c.state with
      | .decided => answered p 0x3A tag .ok c.fetchBody { s with
          claims := s.claims.map fun x => if x.number = c.number then { x with fetched := true } else x }
      | .withdrawn => answered p 0x3A tag .state (state :: wordBytes (c.endTime.getD 0)) s
      | _ => answered p 0x3A tag .pending [state, BitVec.ofNat 8 ((s.claims.takeWhile fun x =>
          x.number != c.number).countP fun x => x.state == .lodged || x.state == .assessing)] s)) ∧
    (s.takes p 0x3B → exec (.claimClear p tag number) s = .next (
      if live then answered p 0x3B tag .state [state] s
      else answered p 0x3B tag .ok (state :: (match c.verdict with
          | some v => [1, BitVec.ofNat 8 v.code, if c.fetched then 1 else 0]
          | none => [0, 0, 0]))
        { s with
          claims := s.claims.filter fun x => x.number != c.number
          assessor := s.assessor.map fun a => { a with claim := a.claim.filter fun n => n != c.number } }))

/-- An assessment whose mark is clear decides its claim by R149: an E indicator or an unreliable record refers it, no
harm at the handoff rejects it, and harm is upheld against the depot if it was there at dispatch, else against the
carrier. With the mark set no claim and no lot changes. In either case the assessor is then IDLE, and may start on the
next claim. A BUSY assessor, or an IDLE one with no LODGED claim, does not start; an IDLE one starts on the LODGED
claim that comes first, which becomes ASSESSING, with the discard mark clear and copies of its handoff, its lot's
dispatch receipt and its class's limits. -/
def Obligations.Assessor : Prop :=
  (∀ (a : Assessment) (s : State), s.phase = .ready → s.assessor = some a →
     (a.discard = true → exec .assessmentCompletion s = .next (State.startAssessor { s with assessor := none })) ∧
     (∀ (c : Claim) (h : Handoff), a.discard = false → a.claim = some c.number → s.claimNamed c.number = some c →
       s.handoffs.get c.handoff = some h →
       let harm (x : Account) := a.doseLimit ≤ x.dose / 960 ∨ a.shockLimit ≤ x.shocks
       let unverified := a.snap.unverified - a.dispatchSnap.unverified
       let verdict : Verdict × Option Referral := match a.e with
         | some .idMismatch => (.referred, some .identity)
         | some .copyMismatch => (.referred, some .copy)
         | none =>
           if a.snap.saturated = true ∨ a.unverifiedLimit < unverified then (.referred, some .record)
           else if ¬ harm a.snap then (.rejected, none)
           else if harm a.dispatchSnap then (.upheldDepot, none)
           else (.upheldCarrier, none)
       exec .assessmentCompletion s = .next (State.startAssessor (State.post
         { s.modLot h.slot (fun l => { l with openClaims := l.openClaims - 1 }) with
           assessor := none
           claims := s.claims.map fun x => if x.number = c.number then
             { x with
               state := .decided, verdict := some verdict.1, reason := verdict.2, decideTime := some s.seconds
               fetched := false
               figures := some
                 { totalDm := a.snap.dose / 960, depotDm := a.dispatchSnap.dose / 960
                   carrierDm := (a.snap.dose - a.dispatchSnap.dose) / 960, shocks := a.snap.shocks
                   unverified := unverified } } else x }
         (.claimDecided c.number c.handoff c.lot verdict.1 verdict.2))))) ∧
  (∀ s : State,
     (s.assessor ≠ none ∨ (∀ c ∈ s.claims, c.state ≠ .lodged) → s.startAssessor = s) ∧
     (∀ (before after : List Claim) (c : Claim) (h : Handoff) (l : Lot) (snap : Account) (r : DispatchReceipt),
       s.assessor = none → s.claims = before ++ c :: after → (∀ x ∈ before, x.state ≠ .lodged) → c.state = .lodged →
       (∀ x ∈ before ++ after, x.number ≠ c.number) →
       s.handoffs.get c.handoff = some h → s.lots.get h.slot = some l → h.snap = some snap → l.dispatched = some r →
       s.startAssessor = { s with
         claims := before ++ { c with state := .assessing } :: after
         assessor := some
           { claim := some c.number, start := s.seconds, discard := false, snap := snap, a := h.a, e := h.e, c := h.c
             accepted := h.accepted, dispatchSnap := r.snap
             doseLimit := (s.settings.classes.get l.cls).doseLimit
             shockLimit := (s.settings.classes.get l.cls).shockLimit
             unverifiedLimit := (s.settings.classes.get l.cls).unverifiedLimit } }))

/-! ### Scans -/

/-- A scan that is due starts with copies of the settings, the next due time a period later, and a read on every
enabled probe; a disabled compartment loses what the scanner kept of it. With no enabled probe it completes. That a
scan with no enabled probe then completes with the Exposure Accountant first is the model's choice (log 8). -/
def Obligations.ScanStart : Prop :=
  ∀ s : State, s.phase = .ready → s.scanner.scan = none → s.scanner.nextDue ≤ s.scanner.elapsed →
    let enabled : Vector Bool 4 := mapV CompCfg.enabled s.settings.comps
    ∃ x : Scan, x.time = s.seconds ∧ x.shift = 0 ∧ x.age = 0 ∧ x.period = s.scanner.period ∧
      x.probes = s.settings.probes ∧ x.enabled = enabled ∧
      (∀ c : Comp, x.hold.get c = (s.settings.comps.get c).holdLimit ∧
        x.steps.get c = if enabled.get c = true ∧ s.scanner.lastEnabled.get c = true then
          s.scanner.lastStart.map fun t => s.scanner.elapsed - t else none) ∧
      (∀ i : Probe, x.reads.get i = if (s.settings.probes.get i).enabled then .waiting else .off) ∧
      let t := { s with
        comps := Vector.ofFn fun c : Comp => if enabled.get c then s.comps.get c else CompScan.fresh
        scanner := { s.scanner with
          nextDue := s.scanner.elapsed + s.scanner.period, lastStart := some s.scanner.elapsed
          lastEnabled := enabled, scan := some x } }
      exec .scanStart s = if s.settings.probes.toList.any ProbeCfg.enabled = true then .next t
        else exec (.scanCompletion 0) t

/-- A read that completes: the sample is validated (R5, R6), the ring takes it, losing its oldest of four, and a
faulted sample is given to the fault latch, which posts PROBE_FAULT when it was CLEAR. A read whose 1 s has run out is
SILENT, and an answer that comes then is no sample (R4); the milliseconds are the model's (log 7). -/
def Obligations.ProbeRead : Prop :=
  ∀ (i : Probe) (x : Scan) (answer : ProbeAnswer) (s : State), s.phase = .ready → s.scanner.scan = some x →
    x.reads.get i = .waiting →
    let cfg := x.probes.get i
    let old := s.probes.get i
    let near (u v : Int) := (u - v).natAbs ≤ cfg.jump
    -- quality, trimmed value, previous accepted value and jump-pending slot
    let sample : Quality × Option Int × Option Int × Option Int := match answer with
      | .fault => (.fault, none, old.accepted, none)
      | .value raw =>
        let v := raw + cfg.trim
        if raw < -880 ∨ 2000 < raw then (.range, none, old.accepted, none)
        else match old.accepted, old.jumped with
          | none, _ => (.ok, some v, some v, none)
          | some a, none =>
            if cfg.jump = 0 ∨ near v a then (.ok, some v, some v, none) else (.jump, some v, some a, some v)
          | some a, some j =>
            if cfg.jump = 0 then (.ok, some v, some v, none)
            else if near v j then (.confirmed, some v, some v, none)
            else if near v a then (.ok, some v, some v, none)
            else (.jump, some v, some a, some v)
    let read (sample : Quality × Option Int × Option Int × Option Int) : State :=
      let faulted := sample.1 = .range ∨ sample.1 = .fault ∨ sample.1 = .silent
      let t := { s with
        scanner := { s.scanner with scan := some { x with
          reads := setAt x.reads i (.done (if sample.1 = .ok ∨ sample.1 = .confirmed then sample.2.1 else none)) } }
        probes := setAt s.probes i
          { accepted := sample.2.2.1, jumped := sample.2.2.2
            ring := old.ring.drop (if old.ring.length < 4 then 0 else 1) ++ [⟨x.time, sample.2.1, sample.1⟩]
            latch := if faulted then some (match old.latch with
                | none => ⟨sample.1, x.time, 1⟩
                | some l => { l with count := min (l.count + 1) 255 }) else old.latch } }
      if faulted ∧ old.latch = none then t.post (.probeFault i sample.1 x.time) else t
    let silent := read (.silent, none, old.accepted, none)
    exec (.probeReadCompletion i answer) s = .next (if 1000 ≤ x.age then silent else read sample) ∧
    exec (.probeInvalidAnswer i) s = .next s ∧
    exec (.readTimeout i) s = .next (if 1000 ≤ x.age then silent else s)

/-- A scan whose reads have completed ends: each enabled compartment keeps the reading of R11 and R12, the route,
stops, handoffs, claims, clock and settings are left alone, and a lot's account alone changes, and only if the lot is
accounting in an enabled compartment; each lot of an enabled compartment has joined. The readings are delivered in
compartment order, to the Excursion Watch (WatchReading) before or after the Exposure Accountant (ExposureStep) as the
command's bits say, and SCAN_SUMMARY carries them. That the command names the order of the two blocks, and that
SCAN_SUMMARY is posted last, is the model's choice (log 8). -/
def Obligations.ScanCompletion : Prop :=
  ∀ (w : BitVec 4) (x : Scan) (s : State), s.phase = .ready → s.scanner.scan = some x →
    (∀ i : Probe, x.reads.get i ≠ .waiting) →
    ∃ t, exec (.scanCompletion w) s = .next t ∧
      t = { s with
        scanner := { s.scanner with scan := none }, comps := t.comps, watches := t.watches, defrosts := t.defrosts
        bases := t.bases, lots := t.lots, ports := t.ports } ∧
      (let readings := (List.finRange 4).filterMap fun c : Comp =>
         if x.enabled.get c = true then (t.comps.get c).latest else none
       let watch (first : Bool) (u : State) : State :=
         (readings.filter fun r => w.getLsbD r.comp.val == first).foldl State.watchReading u
       let delivered := watch false (readings.foldl State.accountReading (watch true { s with comps := t.comps }))
       t = { delivered.post (.scanSummary readings) with scanner := { s.scanner with scan := none } }) ∧
      (∀ c : Comp,
        let best (role : ProbeRole) : Option Int := ((List.finRange 8).filterMap fun i : Probe =>
          let cfg := x.probes.get i
          if cfg.enabled = true ∧ cfg.comp = c ∧ cfg.role = role then (match x.reads.get i with
            | .done v => v
            | _ => none) else none).max?
        let old := s.comps.get c
        let reading (temp : Option Int) (source : Source) : Option Reading :=
          some ⟨c, x.time, x.steps.get c, temp, source⟩
        if x.enabled.get c = false then
          t.comps.get c = old ∧ t.watches.get c = s.watches.get c ∧ t.defrosts.get c = s.defrosts.get c ∧
            t.bases.get c = s.bases.get c
        else
          (t.comps.get c = match best .product, best .air, old.lastLive with
            | some v, _, _ => ⟨some v, 0, reading (some v) .liveProduct⟩
            | none, some v, _ => ⟨some v, 0, reading (some v) .liveAir⟩
            | none, none, some v =>
              let n := min (old.noLive + 1) 255
              ⟨some v, n, reading (some v) (if n ≤ x.hold.get c then .held else .blind)⟩
            | none, none, none => ⟨none, old.noLive, reading none .noSource⟩) ∧
          (t.bases.get c).base = some (x.time + x.shift)) ∧
      (∀ i : Slot, t.lots.get i = (s.lots.get i).map fun l => { l with
        joined := l.joined || x.enabled.get l.comp, acct := (t.lots.get i).elim l.acct Lot.acct }) ∧
      (∀ (i : Slot) (l : Lot), s.lots.get i = some l → l.accounting = false ∨ x.enabled.get l.comp = false →
        t.lots.get i = some { l with joined := l.joined || x.enabled.get l.comp })

/-- The watch of a reading's compartment takes a live reading alone (R23); a high-side hit while the defrost is ACTIVE
is held (R32). In band, SUSPECT falls back to NORMAL, and EXCURSION and RECOVERING count towards the closing of the
open record (R24, R25, R27). A hit counts towards the opening of a record, which the lots accounting in the
compartment count and EXCURSION_START announces as the notice mode allows (R26 to R30), or updates the open record. -/
def Obligations.WatchReading : Prop :=
  ∀ (r : Reading) (s : State),
    let cfg := s.settings.comps.get r.comp
    let w := s.watches.get r.comp
    let calm := w.state = .normal ∨ w.state = .suspect
    let watch (w : Watch) : State := s.modWatch r.comp fun _ => w
    (r.temp = none ∨ r.source ≠ .liveProduct ∧ r.source ≠ .liveAir → s.watchReading r = s) ∧
    ∀ v : Int, r.temp = some v → r.source = .liveProduct ∨ r.source = .liveAir →
      (cfg.high < v → (s.defrosts.get r.comp).state = .active →
        s.watchReading r = watch { w with heldHits := min (w.heldHits + 1) 65535 }) ∧
      (v ≤ cfg.high → cfg.low ≤ v →
        (w.state = .normal → s.watchReading r = s) ∧
        (w.state = .suspect → s.watchReading r = watch { w with state := .normal, hits := 0 }) ∧
        (¬ calm →
          let clears := if w.state = .excursion then 1 else min (w.clears + 1) 255
          (clears < cfg.clear → s.watchReading r = watch { w with state := .recovering, clears := clears }) ∧
          (cfg.clear ≤ clears → ∀ (list : List Excursion) (e : Excursion), w.list = list ++ [e] →
            let t := watch { w with
              state := .normal, hits := 0, clears := 0, list := list ++ [{ e with finish := some r.time }] }
            s.watchReading r =
              if e.noticed then t.post (.excursionEnd r.comp e.start r.time e.side e.peak e.count) else t))) ∧
      (∀ side : Side, (side = .high ∧ cfg.low ≤ cfg.high ∧ cfg.high < v ∧ (s.defrosts.get r.comp).state ≠ .active ∨
          side = .low ∧ cfg.low ≤ cfg.high ∧ v < cfg.low) →
        let hits := if w.state = .normal then 1 else min (w.hits + 1) 255
        (calm → hits < cfg.trigger → s.watchReading r = watch { w with state := .suspect, hits := hits }) ∧
        (calm → cfg.trigger ≤ hits →
          let noticed := decide (cfg.mode = .every) || w.armed
          let list := if w.list.length < 8 then w.list else w.list.drop 1
          let t := watch { w with
            state := .excursion, hits := hits, clears := 0
            armed := if cfg.mode = .firstOnly then false else w.armed
            list := list ++ [⟨r.time, side, v, hits, none, noticed⟩] }
          let t := { t with lots := mapV (Option.map fun l : Lot => if l.accounting = true ∧ l.comp = r.comp then
            { l with acct := { l.acct with excursions := min (l.acct.excursions + 1) 255 } } else l) s.lots }
          s.watchReading r = if noticed then t.post (.excursionStart r.comp r.time side v) else t) ∧
        (¬ calm → ∀ (list : List Excursion) (e : Excursion), w.list = list ++ [e] →
          let worse := side = e.side ∧ (side = .high ∧ e.peak < v ∨ side = .low ∧ v < e.peak)
          s.watchReading r = watch { w with
            state := .excursion, clears := 0, hits := min (w.hits + 1) 255
            list := list ++ [{ e with count := min (e.count + 1) 65535, peak := if worse then v else e.peak }] }))

/-- The step of a reading with step length `d` (R71): with `o` door-open seconds since the door mark, a lot that is
accounting in the compartment and has joined is charged by its class (R72 to R78), and every other lot is left alone.
The step is waived if a defrost is ACTIVE, the door was and is closed and the pool covers it; a pool that does not
cover such a step is emptied and the defrost enters OVERRUN (R59, R60). The base time, the door mark and the last step
record follow (R68, R70), and the other compartments keep theirs. A lot is accounting when it is STOWED or ON_BOARD
with cartons on board or on offer (R66). A reading with a step length takes that step; one without closes the time
since the base time as unverified seconds and sets a fresh base and door mark (R69). Either way the lots of the
compartment then join. -/
def Obligations.ExposureStep : Prop :=
  (∀ l : Lot, l.accounting = true ↔ (l.state = .stowed ∨ l.state = .onBoard) ∧ 0 < l.qty.onBoard + l.qty.offered) ∧
  (∀ (r : Reading) (s : State),
    let now := r.time + (match s.scanner.scan with
      | some x => x.shift
      | none => 0)
    let join (t : State) : State := { t with lots := mapV (Option.map fun l : Lot =>
      if l.comp = r.comp then { l with joined := true } else l) t.lots }
    (∀ d, r.step = some d → s.accountReading r = join (s.takeStep r d)) ∧
    (r.step = none → s.accountReading r = join { s with
      lots := mapV (Option.map fun l : Lot =>
        if l.accounting = true ∧ l.comp = r.comp ∧ l.joined = true then match (s.bases.get r.comp).base with
          | some b =>
            { l with acct := { l.acct with unverified := min (l.acct.unverified + (now - b).toNat) 4294967295 } }
          | none => l
        else l) s.lots
      bases := modAt s.bases r.comp fun b =>
        { b with base := some now, mark := (s.doors.get r.comp).openTotal } }) ∧
    (∀ d, ((s.takeStep r d).bases.get r.comp).base = some now)) ∧
  ∀ (r : Reading) (d : Nat) (s : State),
    let t := s.takeStep r d
    let b := s.bases.get r.comp
    let a := s.defrosts.get r.comp
    let total := (s.doors.get r.comp).openTotal
    let o := min ((total - b.mark).toNat / 1000) d
    let quiet := a.state = .active ∧ o = 0 ∧ (s.doors.get r.comp).state = .closed
    let waived := quiet ∧ d ≤ a.pool
    (t.defrosts.get r.comp).pool = (if waived then a.pool - d else if quiet then 0 else a.pool) ∧
    (t.defrosts.get r.comp).state = (if quiet ∧ ¬ waived then .overrun else a.state) ∧
    (t.bases.get r.comp).mark =
      (if d < (total - b.mark).toNat / 1000 then total else b.mark + BitVec.ofNat 32 (o * 1000)) ∧
    (t.bases.get r.comp).last = some ⟨r.time, d, o, r.source, r.temp, decide waived,
      s.lots.toList.countP fun o => o.any fun l => l.accounting && l.comp == r.comp && l.joined⟩ ∧
    (t.defrosts.get r.comp).record = a.record.map (fun k =>
      if waived then { k with
        waivedSecs := min (k.waivedSecs + d) 4294967295, waivedSteps := min (k.waivedSteps + 1) 65535 }
      else if a.state = .idle then k
      else { k with
        chargedSteps := min (k.chargedSteps + 1) 65535, overrunAt := if quiet then some r.time else k.overrunAt }) ∧
    t = { s with defrosts := t.defrosts, bases := t.bases, lots := t.lots, ports := t.ports } ∧
    (∀ c : Comp, c ≠ r.comp → t.defrosts.get c = s.defrosts.get c ∧ t.bases.get c = s.bases.get c) ∧
    (t.defrosts.get r.comp).refill = a.refill ∧ (t.defrosts.get r.comp).lastAsk = a.lastAsk ∧
    (∀ i : Slot, s.lots.get i = none → t.lots.get i = none) ∧
    t.ports = (match a.record with
      | some k =>
        if quiet ∧ ¬ waived then (s.post (.defrostOverrun r.comp r.time d a.pool k.grant k.waivedSecs)).ports
        else s.ports
      | none => s.ports) ∧
    ∀ (i : Slot) (l : Lot), s.lots.get i = some l →
      t.lots.get i = some (
        if l.accounting = true ∧ l.comp = r.comp ∧ l.joined = true then
          match r.temp with
          | none => { l with acct := { l.acct with unverified := min (l.acct.unverified + d) 4294967295 } }
          | some temp =>
            let k := s.settings.classes.get l.cls
            let charge (e : Int) : Int :=
              e * (if e ≤ 0 then 0 else if e ≤ k.b1 then 1 else if e ≤ k.b2 then 2 else 4)
            let e := min (temp - k.limit) 2880
            let gain := (charge (max e 0) * ((d - o : Nat) : Int) + charge (max e k.floor) * (o : Int)).toNat
            let dose := if waived then l.acct.dose else l.acct.dose + gain
            let waivedDose := if waived then l.acct.waived + gain else l.acct.waived
            let live := r.source = .liveProduct ∨ r.source = .liveAir
            { l with acct := { l.acct with
              dose := if waived then dose else min dose 4294967295
              waived := if waived then min waivedDose 4294967295 else waivedDose
              saturated := l.acct.saturated ||
                decide (2 ^ 32 ≤ if waived then l.acct.waived + gain else l.acct.dose + gain)
              doorSecs := min (l.acct.doorSecs + o) 4294967295
              unverified := if r.source = .held ∨ r.source = .blind then
                min (l.acct.unverified + d) 4294967295 else l.acct.unverified
              airSecs := if r.source = .liveAir then min (l.acct.airSecs + d) 4294967295 else l.acct.airSecs
              peak := if live ∧ l.acct.peak.all (fun x => x < temp) = true then some temp else l.acct.peak
              warm := if l.acct.warm = true then decide (k.limit < temp) else decide (k.shock ≤ temp)
              shocks := if l.acct.warm = true ∧ temp ≤ k.limit then min (l.acct.shocks + 1) 255
                else l.acct.shocks } }
        else l)

/-! ### Doors -/

/-- A new level at a door's input begins a candidate when it differs from the accepted level, and cancels the
candidate when it does not; nothing else changes. The held timer of an OPEN door that has reached the held limit makes
it HELD and posts DOOR_HELD; the latch is not touched. A stop accumulator at 1000 gives the OPEN stop one more door
second for its door; a sum above a budget that is not 0 sets DOOR_OVER once and posts it. That the budget is judged on
the sum over the four doors at each second follows R48; its notice field has four bytes (R183). -/
def Obligations.DoorEvents : Prop :=
  (∀ (d : Comp) (high : Bool) (s : State), s.phase ≠ .off →
     let x := s.doors.get d
     let isOpen := decide ((s.settings.doors.get d).polarity = .openHigh) == high
     exec (.doorInputLevel d high) s = .next (if x.high = high then s else s.modDoor d fun x => { x with
       high := high
       candidate := match x.state with
         | .unsettled => some 0
         | .closed => if isOpen then some 0 else none
         | _ => if isOpen then none else some 0 })) ∧
  (∀ (d : Comp) (x : OpenPeriod) (s : State), s.phase = .ready → (s.doors.get d).state = .opened →
     (s.doors.get d).period = some x → (s.settings.doors.get d).heldLimit ≤ x.held →
     exec (.heldLimitReached d) s =
       .next ((s.modDoor d fun y => { y with state := .held }).post (.doorHeld d x.start x.kind))) ∧
  (∀ (d : Comp) (n : StopNo) (st : Stop) (s : State), s.phase ≠ .off → s.route.openStop = some n →
     s.stops.get n = some st → 1000 ≤ (s.doors.get d).stopAcc →
     let secs := setAt st.doorSecs d (min (st.doorSecs.get d + 1) 65535)
     let exceeds := 0 < st.budget ∧ st.budget < secs.toList.sum ∧ st.doorOver = false
     let t := { s with
       doors := modAt s.doors d fun x => { x with stopAcc := x.stopAcc - 1000 }
       stops := setAt s.stops n (some { st with doorSecs := secs, doorOver := st.doorOver || decide exceeds }) }
     exec (.stopDoorSecond d) s = .next (if exceeds then t.post (.doorOver n st.budget secs.toList.sum) else t))

/-- A level that differs for the debounce time is accepted. From UNSETTLED it starts a period of no kind, or none, and
leaves the latch alone; an opening takes its kind from the route and, if UNSCHEDULED, is counted on the lots
accounting in the compartment and announced; a closing ends the period. A CLEAR latch takes the change and DOOR_CHANGE
is posted; a LATCHED one counts it. That a first level sets the last change time is the model's choice (log 9). -/
def Obligations.AcceptedChange : Prop :=
  ∀ (d : Comp) (t : Nat) (s : State), s.phase ≠ .off → (s.doors.get d).candidate = some t →
    (s.settings.doors.get d).debounce ≤ t →
    let x := s.doors.get d
    let level := decide ((s.settings.doors.get d).polarity = .openHigh) == x.high
    let kind : OpeningKind := if s.route.state = .dispatched then
        if s.route.openStop = none then .unscheduled else .scheduled else .depot
    let lots := s.lots.toList.countP fun o => o.any fun l => l.accounting && l.comp == d
    let latch (isOpen : Bool) (kind : Option OpeningKind) (u : State) : State := match x.latch with
      | none => (u.modDoor d fun y => { y with latch := some ⟨isOpen, s.seconds, kind, .change, 0⟩ }).post
          (.doorChange d isOpen s.seconds kind .change)
      | some l => u.modDoor d fun y => { y with latch := some { l with unreported := min (l.unreported + 1) 255 } }
    exec (.acceptedChange d) s = .next (match x.state, level with
      | .unsettled, true => s.modDoor d fun y => { y with
          candidate := none, lastChange := some s.seconds, state := .opened, period := some ⟨s.seconds, none, 0⟩ }
      | .unsettled, false => s.modDoor d fun y => { y with
          candidate := none, lastChange := some s.seconds, state := .closed, period := none }
      | .closed, true =>
        let u := if kind = .unscheduled then
            State.post { s with lots := mapV (Option.map fun l : Lot => if l.accounting = true ∧ l.comp = d then
              { l with acct := { l.acct with openings := min (l.acct.openings + 1) 255 } } else l) s.lots }
              (.unscheduledOpening d s.seconds lots)
          else s
        latch true (some kind) (u.modDoor d fun y => { y with
          candidate := none, lastChange := some s.seconds, state := .opened
          period := some ⟨s.seconds, some kind, 0⟩ })
      | .closed, false => s
      | _, true => s
      | _, false => latch false none (s.modDoor d fun y => { y with
          candidate := none, lastChange := some s.seconds, state := .closed, period := none }))

/-! ### Time -/

/-- The seconds count advances by one, modulo 2^32, on main power or with a retained memory on the backup supply; with
neither nothing moves (R181). With the second pass the milliseconds that it still had (log 7, the model's choice):
they count the candidate level, the open-time total and the stop accumulator of each door (R38, R43, R47), the silence
of each receiver (R159) and the age of a scan (R4). While READY every timer that runs counts the second; while
STARTING only the held timers and the scanner's count do. While no command waits one millisecond passes, and the
thousandth is the advance of the seconds count (log 7). The scanner's count of elapsed seconds does not wrap (log
19). -/
def Obligations.TimePasses : Prop :=
  (∀ s : State,
     (s.phase = .off → s.marker = false → exec .secondsCountAdvance s = .next s) ∧
     (s.phase ≠ .off ∨ s.marker = true →
       ∃ t, exec .secondsCountAdvance s = .next t ∧ timePassed (1000 - s.subMs) true s t)) ∧
  (∀ s : State, s.pending = [] →
     (s.phase = .off → s.marker = false → step s = .next s) ∧
     (s.phase ≠ .off ∨ s.marker = true →
       (s.subMs < 999 → ∃ t, step s = .next t ∧ timePassed 1 false s t) ∧
       (999 ≤ s.subMs → step s = exec .secondsCountAdvance s)))

/-! ### Laws that every step keeps -/

/-- Reset meets the laws below. Rests on the model's choice of the reset state (log 5). -/
def Obligations.ResetLawful : Prop :=
  State.reset.lotLaw ∧ State.reset.capacityLaw ∧ State.reset.periodLaw ∧ State.reset.poolLaw ∧ State.reset.claimLaw ∧
    State.reset.openStopLaw ∧ State.reset.watchLaw

/-- No step makes cartons appear or vanish within a lot, lets a lot's number be 0, or gives two slots one number. -/
def Obligations.LotLawKept : Prop := ∀ s t : State, s.lotLaw → step s = .next t → t.lotLaw

/-- No step takes a collection above its capacity or makes a response whose BODY is longer than 238 bytes. No step
takes a watch's hit counter above 255, or leaves a watch EXCURSION or RECOVERING without an open record in its
excursion list or with one otherwise (R25, R28). -/
def Obligations.CapacityLawKept : Prop :=
  ∀ s t : State, step s = .next t → (s.capacityLaw → t.capacityLaw) ∧ (s.watchLaw → t.watchLaw)

/-- No step takes a setting of either copy out of its range, leaves no DOCK port in them, or leaves the scan period in
force other than the lowest clamped bid, or the default where there is no bid; none leaves a READY machine with a pool
above its maximum. -/
def Obligations.PeriodAndPoolLawKept : Prop :=
  ∀ s t : State, s.periodLaw → s.poolLaw → step s = .next t → t.periodLaw ∧ t.poolLaw

/-- No step gives two claims one number or a number out of 1 to 65535, decides a claim without verdict and figures, or
leaves a READY machine with a claim ASSESSING that the assessor does not work on. -/
def Obligations.ClaimLawKept : Prop := ∀ s t : State, s.claimLaw → step s = .next t → t.claimLaw

/-- No step leaves a stop OPEN that the route does not name, or names one that is not OPEN or while the route is not
DISPATCHED, or leaves a handoff OFFERED that was not offered at the OPEN stop. -/
def Obligations.OpenStopLawKept : Prop := ∀ s t : State, s.openStopLaw → step s = .next t → t.openStopLaw
end

