-- ==== Sys2Proof/Laws/Bytes.lean ====
section
/-!
SUPPORT. Reading back the fields that bytes carry (R182): two and four bytes, and the planned entries of STOP_LOAD.
-/
namespace Sys2Proof

/-- Reading the two bytes of a 16-bit field gives the field. -/
theorem readHalf_bytes (x : Half) : readHalf (x.extractLsb' 8 8) (x.extractLsb' 0 8) = x := by
  apply BitVec.eq_of_getLsbD_eq
  intro i hi
  show BitVec.getLsbD (w := 8 + 8) (x.extractLsb' 8 8 ++ x.extractLsb' 0 8) i = _
  simp only [BitVec.getLsbD_append, BitVec.getLsbD_extractLsb']
  by_cases h : i < 8
  · simp [h]
  · simp [h, show i - 8 < 8 by omega, show 8 + (i - 8) = i by omega]

/-- Reading the four bytes of a 32-bit field gives the field. -/
theorem readWord_bytes (x : Word) :
    readWord (x.extractLsb' 24 8) (x.extractLsb' 16 8) (x.extractLsb' 8 8) (x.extractLsb' 0 8) = x := by
  apply BitVec.eq_of_getLsbD_eq
  intro i hi
  show BitVec.getLsbD (w := 8 + 8 + 8 + 8)
    (x.extractLsb' 24 8 ++ x.extractLsb' 16 8 ++ x.extractLsb' 8 8 ++ x.extractLsb' 0 8) i = _
  simp only [BitVec.getLsbD_append, BitVec.getLsbD_extractLsb']
  by_cases h : i < 8
  · simp [h]
  · by_cases h1 : i - 8 < 8
    · simp [h, h1, show 8 + (i - 8) = i by omega]
    · by_cases h2 : i - 8 - 8 < 8
      · simp [h, h1, h2, show 16 + (i - 8 - 8) = i by omega]
      · simp [h, h1, h2, show i - 8 - 8 - 8 < 8 by omega, show 24 + (i - 8 - 8 - 8) = i by omega]

/-- Reading the bytes of planned entries gives the entries. -/
theorem readPlanned_bytes (xs : List (Word × Half)) : readPlanned (xs.flatMap plannedBytes) = some xs := by
  induction xs with
  | nil => rfl
  | cons e es ih =>
    simp [List.flatMap_cons, plannedBytes, wordBytes, halfBytes, readPlanned, ih, readWord_bytes, readHalf_bytes]

/-- Six bytes for each planned entry. -/
theorem plannedBytes_length (xs : List (Word × Half)) : (xs.flatMap plannedBytes).length = 6 * xs.length := by
  induction xs with
  | nil => rfl
  | cons e es ih =>
    simp only [List.flatMap_cons, List.length_append, ih, plannedBytes, wordBytes, halfBytes, List.length_cons,
      List.length_nil]
    omega

end Sys2Proof
end

