-- ==== Sys2Proof/Laws/State.lean ====
section
/-!
SUPPORT. One lemma per field of State for each named update of one table (Machine/Ops.lean): the field that the update
changes, and every field that it leaves alone. No later proof unfolds a record update.
-/
namespace Sys2Proof.Machine

variable (s : State)

/-! ### modPort -/

@[simp] theorem State.modPort_pending (p : Port) (f : PortState → PortState) :
    (s.modPort p f).pending = s.pending := rfl
@[simp] theorem State.modPort_phase (p : Port) (f : PortState → PortState) : (s.modPort p f).phase = s.phase := rfl
@[simp] theorem State.modPort_settings (p : Port) (f : PortState → PortState) :
    (s.modPort p f).settings = s.settings := rfl
@[simp] theorem State.modPort_store (p : Port) (f : PortState → PortState) : (s.modPort p f).store = s.store := rfl
@[simp] theorem State.modPort_storeWrite (p : Port) (f : PortState → PortState) :
    (s.modPort p f).storeWrite = s.storeWrite := rfl
@[simp] theorem State.modPort_defaulted (p : Port) (f : PortState → PortState) :
    (s.modPort p f).defaulted = s.defaulted := rfl
@[simp] theorem State.modPort_restartTaken (p : Port) (f : PortState → PortState) :
    (s.modPort p f).restartTaken = s.restartTaken := rfl
@[simp] theorem State.modPort_restartDue (p : Port) (f : PortState → PortState) :
    (s.modPort p f).restartDue = s.restartDue := rfl
@[simp] theorem State.modPort_marker (p : Port) (f : PortState → PortState) : (s.modPort p f).marker = s.marker := rfl
@[simp] theorem State.modPort_seconds (p : Port) (f : PortState → PortState) :
    (s.modPort p f).seconds = s.seconds := rfl
@[simp] theorem State.modPort_subMs (p : Port) (f : PortState → PortState) : (s.modPort p f).subMs = s.subMs := rfl
@[simp] theorem State.modPort_clockUnset (p : Port) (f : PortState → PortState) :
    (s.modPort p f).clockUnset = s.clockUnset := rfl
@[simp] theorem State.modPort_scanner (p : Port) (f : PortState → PortState) :
    (s.modPort p f).scanner = s.scanner := rfl
@[simp] theorem State.modPort_probes (p : Port) (f : PortState → PortState) : (s.modPort p f).probes = s.probes := rfl
@[simp] theorem State.modPort_comps (p : Port) (f : PortState → PortState) : (s.modPort p f).comps = s.comps := rfl
@[simp] theorem State.modPort_watches (p : Port) (f : PortState → PortState) :
    (s.modPort p f).watches = s.watches := rfl
@[simp] theorem State.modPort_doors (p : Port) (f : PortState → PortState) : (s.modPort p f).doors = s.doors := rfl
@[simp] theorem State.modPort_defrosts (p : Port) (f : PortState → PortState) :
    (s.modPort p f).defrosts = s.defrosts := rfl
@[simp] theorem State.modPort_bases (p : Port) (f : PortState → PortState) : (s.modPort p f).bases = s.bases := rfl
@[simp] theorem State.modPort_lots (p : Port) (f : PortState → PortState) : (s.modPort p f).lots = s.lots := rfl
@[simp] theorem State.modPort_route (p : Port) (f : PortState → PortState) : (s.modPort p f).route = s.route := rfl
@[simp] theorem State.modPort_stops (p : Port) (f : PortState → PortState) : (s.modPort p f).stops = s.stops := rfl
@[simp] theorem State.modPort_handoffs (p : Port) (f : PortState → PortState) :
    (s.modPort p f).handoffs = s.handoffs := rfl
@[simp] theorem State.modPort_claims (p : Port) (f : PortState → PortState) : (s.modPort p f).claims = s.claims := rfl
@[simp] theorem State.modPort_nextClaim (p : Port) (f : PortState → PortState) :
    (s.modPort p f).nextClaim = s.nextClaim := rfl
@[simp] theorem State.modPort_assessor (p : Port) (f : PortState → PortState) :
    (s.modPort p f).assessor = s.assessor := rfl
@[simp] theorem State.modPort_ports (p : Port) (f : PortState → PortState) :
    (s.modPort p f).ports = modAt s.ports p f := rfl
@[simp] theorem State.modPort_report (p : Port) (f : PortState → PortState) : (s.modPort p f).report = s.report := rfl
@[simp] theorem State.modPort_draws (p : Port) (f : PortState → PortState) : (s.modPort p f).draws = s.draws := rfl

/-! ### modDoor -/

@[simp] theorem State.modDoor_pending (d : Comp) (f : Door → Door) : (s.modDoor d f).pending = s.pending := rfl
@[simp] theorem State.modDoor_phase (d : Comp) (f : Door → Door) : (s.modDoor d f).phase = s.phase := rfl
@[simp] theorem State.modDoor_settings (d : Comp) (f : Door → Door) : (s.modDoor d f).settings = s.settings := rfl
@[simp] theorem State.modDoor_store (d : Comp) (f : Door → Door) : (s.modDoor d f).store = s.store := rfl
@[simp] theorem State.modDoor_storeWrite (d : Comp) (f : Door → Door) :
    (s.modDoor d f).storeWrite = s.storeWrite := rfl
@[simp] theorem State.modDoor_defaulted (d : Comp) (f : Door → Door) : (s.modDoor d f).defaulted = s.defaulted := rfl
@[simp] theorem State.modDoor_restartTaken (d : Comp) (f : Door → Door) :
    (s.modDoor d f).restartTaken = s.restartTaken := rfl
@[simp] theorem State.modDoor_restartDue (d : Comp) (f : Door → Door) :
    (s.modDoor d f).restartDue = s.restartDue := rfl
@[simp] theorem State.modDoor_marker (d : Comp) (f : Door → Door) : (s.modDoor d f).marker = s.marker := rfl
@[simp] theorem State.modDoor_seconds (d : Comp) (f : Door → Door) : (s.modDoor d f).seconds = s.seconds := rfl
@[simp] theorem State.modDoor_subMs (d : Comp) (f : Door → Door) : (s.modDoor d f).subMs = s.subMs := rfl
@[simp] theorem State.modDoor_clockUnset (d : Comp) (f : Door → Door) :
    (s.modDoor d f).clockUnset = s.clockUnset := rfl
@[simp] theorem State.modDoor_scanner (d : Comp) (f : Door → Door) : (s.modDoor d f).scanner = s.scanner := rfl
@[simp] theorem State.modDoor_probes (d : Comp) (f : Door → Door) : (s.modDoor d f).probes = s.probes := rfl
@[simp] theorem State.modDoor_comps (d : Comp) (f : Door → Door) : (s.modDoor d f).comps = s.comps := rfl
@[simp] theorem State.modDoor_watches (d : Comp) (f : Door → Door) : (s.modDoor d f).watches = s.watches := rfl
@[simp] theorem State.modDoor_doors (d : Comp) (f : Door → Door) : (s.modDoor d f).doors = modAt s.doors d f := rfl
@[simp] theorem State.modDoor_defrosts (d : Comp) (f : Door → Door) : (s.modDoor d f).defrosts = s.defrosts := rfl
@[simp] theorem State.modDoor_bases (d : Comp) (f : Door → Door) : (s.modDoor d f).bases = s.bases := rfl
@[simp] theorem State.modDoor_lots (d : Comp) (f : Door → Door) : (s.modDoor d f).lots = s.lots := rfl
@[simp] theorem State.modDoor_route (d : Comp) (f : Door → Door) : (s.modDoor d f).route = s.route := rfl
@[simp] theorem State.modDoor_stops (d : Comp) (f : Door → Door) : (s.modDoor d f).stops = s.stops := rfl
@[simp] theorem State.modDoor_handoffs (d : Comp) (f : Door → Door) : (s.modDoor d f).handoffs = s.handoffs := rfl
@[simp] theorem State.modDoor_claims (d : Comp) (f : Door → Door) : (s.modDoor d f).claims = s.claims := rfl
@[simp] theorem State.modDoor_nextClaim (d : Comp) (f : Door → Door) : (s.modDoor d f).nextClaim = s.nextClaim := rfl
@[simp] theorem State.modDoor_assessor (d : Comp) (f : Door → Door) : (s.modDoor d f).assessor = s.assessor := rfl
@[simp] theorem State.modDoor_ports (d : Comp) (f : Door → Door) : (s.modDoor d f).ports = s.ports := rfl
@[simp] theorem State.modDoor_report (d : Comp) (f : Door → Door) : (s.modDoor d f).report = s.report := rfl
@[simp] theorem State.modDoor_draws (d : Comp) (f : Door → Door) : (s.modDoor d f).draws = s.draws := rfl

/-! ### modWatch -/

@[simp] theorem State.modWatch_pending (c : Comp) (f : Watch → Watch) : (s.modWatch c f).pending = s.pending := rfl
@[simp] theorem State.modWatch_phase (c : Comp) (f : Watch → Watch) : (s.modWatch c f).phase = s.phase := rfl
@[simp] theorem State.modWatch_settings (c : Comp) (f : Watch → Watch) : (s.modWatch c f).settings = s.settings := rfl
@[simp] theorem State.modWatch_store (c : Comp) (f : Watch → Watch) : (s.modWatch c f).store = s.store := rfl
@[simp] theorem State.modWatch_storeWrite (c : Comp) (f : Watch → Watch) :
    (s.modWatch c f).storeWrite = s.storeWrite := rfl
@[simp] theorem State.modWatch_defaulted (c : Comp) (f : Watch → Watch) :
    (s.modWatch c f).defaulted = s.defaulted := rfl
@[simp] theorem State.modWatch_restartTaken (c : Comp) (f : Watch → Watch) :
    (s.modWatch c f).restartTaken = s.restartTaken := rfl
@[simp] theorem State.modWatch_restartDue (c : Comp) (f : Watch → Watch) :
    (s.modWatch c f).restartDue = s.restartDue := rfl
@[simp] theorem State.modWatch_marker (c : Comp) (f : Watch → Watch) : (s.modWatch c f).marker = s.marker := rfl
@[simp] theorem State.modWatch_seconds (c : Comp) (f : Watch → Watch) : (s.modWatch c f).seconds = s.seconds := rfl
@[simp] theorem State.modWatch_subMs (c : Comp) (f : Watch → Watch) : (s.modWatch c f).subMs = s.subMs := rfl
@[simp] theorem State.modWatch_clockUnset (c : Comp) (f : Watch → Watch) :
    (s.modWatch c f).clockUnset = s.clockUnset := rfl
@[simp] theorem State.modWatch_scanner (c : Comp) (f : Watch → Watch) : (s.modWatch c f).scanner = s.scanner := rfl
@[simp] theorem State.modWatch_probes (c : Comp) (f : Watch → Watch) : (s.modWatch c f).probes = s.probes := rfl
@[simp] theorem State.modWatch_comps (c : Comp) (f : Watch → Watch) : (s.modWatch c f).comps = s.comps := rfl
@[simp] theorem State.modWatch_watches (c : Comp) (f : Watch → Watch) :
    (s.modWatch c f).watches = modAt s.watches c f := rfl
@[simp] theorem State.modWatch_doors (c : Comp) (f : Watch → Watch) : (s.modWatch c f).doors = s.doors := rfl
@[simp] theorem State.modWatch_defrosts (c : Comp) (f : Watch → Watch) : (s.modWatch c f).defrosts = s.defrosts := rfl
@[simp] theorem State.modWatch_bases (c : Comp) (f : Watch → Watch) : (s.modWatch c f).bases = s.bases := rfl
@[simp] theorem State.modWatch_lots (c : Comp) (f : Watch → Watch) : (s.modWatch c f).lots = s.lots := rfl
@[simp] theorem State.modWatch_route (c : Comp) (f : Watch → Watch) : (s.modWatch c f).route = s.route := rfl
@[simp] theorem State.modWatch_stops (c : Comp) (f : Watch → Watch) : (s.modWatch c f).stops = s.stops := rfl
@[simp] theorem State.modWatch_handoffs (c : Comp) (f : Watch → Watch) : (s.modWatch c f).handoffs = s.handoffs := rfl
@[simp] theorem State.modWatch_claims (c : Comp) (f : Watch → Watch) : (s.modWatch c f).claims = s.claims := rfl
@[simp] theorem State.modWatch_nextClaim (c : Comp) (f : Watch → Watch) :
    (s.modWatch c f).nextClaim = s.nextClaim := rfl
@[simp] theorem State.modWatch_assessor (c : Comp) (f : Watch → Watch) : (s.modWatch c f).assessor = s.assessor := rfl
@[simp] theorem State.modWatch_ports (c : Comp) (f : Watch → Watch) : (s.modWatch c f).ports = s.ports := rfl
@[simp] theorem State.modWatch_report (c : Comp) (f : Watch → Watch) : (s.modWatch c f).report = s.report := rfl
@[simp] theorem State.modWatch_draws (c : Comp) (f : Watch → Watch) : (s.modWatch c f).draws = s.draws := rfl

/-! ### modDefrost -/

@[simp] theorem State.modDefrost_pending (c : Comp) (f : Allowance → Allowance) :
    (s.modDefrost c f).pending = s.pending := rfl
@[simp] theorem State.modDefrost_phase (c : Comp) (f : Allowance → Allowance) :
    (s.modDefrost c f).phase = s.phase := rfl
@[simp] theorem State.modDefrost_settings (c : Comp) (f : Allowance → Allowance) :
    (s.modDefrost c f).settings = s.settings := rfl
@[simp] theorem State.modDefrost_store (c : Comp) (f : Allowance → Allowance) :
    (s.modDefrost c f).store = s.store := rfl
@[simp] theorem State.modDefrost_storeWrite (c : Comp) (f : Allowance → Allowance) :
    (s.modDefrost c f).storeWrite = s.storeWrite := rfl
@[simp] theorem State.modDefrost_defaulted (c : Comp) (f : Allowance → Allowance) :
    (s.modDefrost c f).defaulted = s.defaulted := rfl
@[simp] theorem State.modDefrost_restartTaken (c : Comp) (f : Allowance → Allowance) :
    (s.modDefrost c f).restartTaken = s.restartTaken := rfl
@[simp] theorem State.modDefrost_restartDue (c : Comp) (f : Allowance → Allowance) :
    (s.modDefrost c f).restartDue = s.restartDue := rfl
@[simp] theorem State.modDefrost_marker (c : Comp) (f : Allowance → Allowance) :
    (s.modDefrost c f).marker = s.marker := rfl
@[simp] theorem State.modDefrost_seconds (c : Comp) (f : Allowance → Allowance) :
    (s.modDefrost c f).seconds = s.seconds := rfl
@[simp] theorem State.modDefrost_subMs (c : Comp) (f : Allowance → Allowance) :
    (s.modDefrost c f).subMs = s.subMs := rfl
@[simp] theorem State.modDefrost_clockUnset (c : Comp) (f : Allowance → Allowance) :
    (s.modDefrost c f).clockUnset = s.clockUnset := rfl
@[simp] theorem State.modDefrost_scanner (c : Comp) (f : Allowance → Allowance) :
    (s.modDefrost c f).scanner = s.scanner := rfl
@[simp] theorem State.modDefrost_probes (c : Comp) (f : Allowance → Allowance) :
    (s.modDefrost c f).probes = s.probes := rfl
@[simp] theorem State.modDefrost_comps (c : Comp) (f : Allowance → Allowance) :
    (s.modDefrost c f).comps = s.comps := rfl
@[simp] theorem State.modDefrost_watches (c : Comp) (f : Allowance → Allowance) :
    (s.modDefrost c f).watches = s.watches := rfl
@[simp] theorem State.modDefrost_doors (c : Comp) (f : Allowance → Allowance) :
    (s.modDefrost c f).doors = s.doors := rfl
@[simp] theorem State.modDefrost_defrosts (c : Comp) (f : Allowance → Allowance) :
    (s.modDefrost c f).defrosts = modAt s.defrosts c f := rfl
@[simp] theorem State.modDefrost_bases (c : Comp) (f : Allowance → Allowance) :
    (s.modDefrost c f).bases = s.bases := rfl
@[simp] theorem State.modDefrost_lots (c : Comp) (f : Allowance → Allowance) : (s.modDefrost c f).lots = s.lots := rfl
@[simp] theorem State.modDefrost_route (c : Comp) (f : Allowance → Allowance) :
    (s.modDefrost c f).route = s.route := rfl
@[simp] theorem State.modDefrost_stops (c : Comp) (f : Allowance → Allowance) :
    (s.modDefrost c f).stops = s.stops := rfl
@[simp] theorem State.modDefrost_handoffs (c : Comp) (f : Allowance → Allowance) :
    (s.modDefrost c f).handoffs = s.handoffs := rfl
@[simp] theorem State.modDefrost_claims (c : Comp) (f : Allowance → Allowance) :
    (s.modDefrost c f).claims = s.claims := rfl
@[simp] theorem State.modDefrost_nextClaim (c : Comp) (f : Allowance → Allowance) :
    (s.modDefrost c f).nextClaim = s.nextClaim := rfl
@[simp] theorem State.modDefrost_assessor (c : Comp) (f : Allowance → Allowance) :
    (s.modDefrost c f).assessor = s.assessor := rfl
@[simp] theorem State.modDefrost_ports (c : Comp) (f : Allowance → Allowance) :
    (s.modDefrost c f).ports = s.ports := rfl
@[simp] theorem State.modDefrost_report (c : Comp) (f : Allowance → Allowance) :
    (s.modDefrost c f).report = s.report := rfl
@[simp] theorem State.modDefrost_draws (c : Comp) (f : Allowance → Allowance) :
    (s.modDefrost c f).draws = s.draws := rfl

/-! ### modBase -/

@[simp] theorem State.modBase_pending (c : Comp) (f : StepBase → StepBase) :
    (s.modBase c f).pending = s.pending := rfl
@[simp] theorem State.modBase_phase (c : Comp) (f : StepBase → StepBase) : (s.modBase c f).phase = s.phase := rfl
@[simp] theorem State.modBase_settings (c : Comp) (f : StepBase → StepBase) :
    (s.modBase c f).settings = s.settings := rfl
@[simp] theorem State.modBase_store (c : Comp) (f : StepBase → StepBase) : (s.modBase c f).store = s.store := rfl
@[simp] theorem State.modBase_storeWrite (c : Comp) (f : StepBase → StepBase) :
    (s.modBase c f).storeWrite = s.storeWrite := rfl
@[simp] theorem State.modBase_defaulted (c : Comp) (f : StepBase → StepBase) :
    (s.modBase c f).defaulted = s.defaulted := rfl
@[simp] theorem State.modBase_restartTaken (c : Comp) (f : StepBase → StepBase) :
    (s.modBase c f).restartTaken = s.restartTaken := rfl
@[simp] theorem State.modBase_restartDue (c : Comp) (f : StepBase → StepBase) :
    (s.modBase c f).restartDue = s.restartDue := rfl
@[simp] theorem State.modBase_marker (c : Comp) (f : StepBase → StepBase) : (s.modBase c f).marker = s.marker := rfl
@[simp] theorem State.modBase_seconds (c : Comp) (f : StepBase → StepBase) :
    (s.modBase c f).seconds = s.seconds := rfl
@[simp] theorem State.modBase_subMs (c : Comp) (f : StepBase → StepBase) : (s.modBase c f).subMs = s.subMs := rfl
@[simp] theorem State.modBase_clockUnset (c : Comp) (f : StepBase → StepBase) :
    (s.modBase c f).clockUnset = s.clockUnset := rfl
@[simp] theorem State.modBase_scanner (c : Comp) (f : StepBase → StepBase) :
    (s.modBase c f).scanner = s.scanner := rfl
@[simp] theorem State.modBase_probes (c : Comp) (f : StepBase → StepBase) : (s.modBase c f).probes = s.probes := rfl
@[simp] theorem State.modBase_comps (c : Comp) (f : StepBase → StepBase) : (s.modBase c f).comps = s.comps := rfl
@[simp] theorem State.modBase_watches (c : Comp) (f : StepBase → StepBase) :
    (s.modBase c f).watches = s.watches := rfl
@[simp] theorem State.modBase_doors (c : Comp) (f : StepBase → StepBase) : (s.modBase c f).doors = s.doors := rfl
@[simp] theorem State.modBase_defrosts (c : Comp) (f : StepBase → StepBase) :
    (s.modBase c f).defrosts = s.defrosts := rfl
@[simp] theorem State.modBase_bases (c : Comp) (f : StepBase → StepBase) :
    (s.modBase c f).bases = modAt s.bases c f := rfl
@[simp] theorem State.modBase_lots (c : Comp) (f : StepBase → StepBase) : (s.modBase c f).lots = s.lots := rfl
@[simp] theorem State.modBase_route (c : Comp) (f : StepBase → StepBase) : (s.modBase c f).route = s.route := rfl
@[simp] theorem State.modBase_stops (c : Comp) (f : StepBase → StepBase) : (s.modBase c f).stops = s.stops := rfl
@[simp] theorem State.modBase_handoffs (c : Comp) (f : StepBase → StepBase) :
    (s.modBase c f).handoffs = s.handoffs := rfl
@[simp] theorem State.modBase_claims (c : Comp) (f : StepBase → StepBase) : (s.modBase c f).claims = s.claims := rfl
@[simp] theorem State.modBase_nextClaim (c : Comp) (f : StepBase → StepBase) :
    (s.modBase c f).nextClaim = s.nextClaim := rfl
@[simp] theorem State.modBase_assessor (c : Comp) (f : StepBase → StepBase) :
    (s.modBase c f).assessor = s.assessor := rfl
@[simp] theorem State.modBase_ports (c : Comp) (f : StepBase → StepBase) : (s.modBase c f).ports = s.ports := rfl
@[simp] theorem State.modBase_report (c : Comp) (f : StepBase → StepBase) : (s.modBase c f).report = s.report := rfl
@[simp] theorem State.modBase_draws (c : Comp) (f : StepBase → StepBase) : (s.modBase c f).draws = s.draws := rfl

/-! ### modComp -/

@[simp] theorem State.modComp_pending (c : Comp) (f : CompScan → CompScan) :
    (s.modComp c f).pending = s.pending := rfl
@[simp] theorem State.modComp_phase (c : Comp) (f : CompScan → CompScan) : (s.modComp c f).phase = s.phase := rfl
@[simp] theorem State.modComp_settings (c : Comp) (f : CompScan → CompScan) :
    (s.modComp c f).settings = s.settings := rfl
@[simp] theorem State.modComp_store (c : Comp) (f : CompScan → CompScan) : (s.modComp c f).store = s.store := rfl
@[simp] theorem State.modComp_storeWrite (c : Comp) (f : CompScan → CompScan) :
    (s.modComp c f).storeWrite = s.storeWrite := rfl
@[simp] theorem State.modComp_defaulted (c : Comp) (f : CompScan → CompScan) :
    (s.modComp c f).defaulted = s.defaulted := rfl
@[simp] theorem State.modComp_restartTaken (c : Comp) (f : CompScan → CompScan) :
    (s.modComp c f).restartTaken = s.restartTaken := rfl
@[simp] theorem State.modComp_restartDue (c : Comp) (f : CompScan → CompScan) :
    (s.modComp c f).restartDue = s.restartDue := rfl
@[simp] theorem State.modComp_marker (c : Comp) (f : CompScan → CompScan) : (s.modComp c f).marker = s.marker := rfl
@[simp] theorem State.modComp_seconds (c : Comp) (f : CompScan → CompScan) :
    (s.modComp c f).seconds = s.seconds := rfl
@[simp] theorem State.modComp_subMs (c : Comp) (f : CompScan → CompScan) : (s.modComp c f).subMs = s.subMs := rfl
@[simp] theorem State.modComp_clockUnset (c : Comp) (f : CompScan → CompScan) :
    (s.modComp c f).clockUnset = s.clockUnset := rfl
@[simp] theorem State.modComp_scanner (c : Comp) (f : CompScan → CompScan) :
    (s.modComp c f).scanner = s.scanner := rfl
@[simp] theorem State.modComp_probes (c : Comp) (f : CompScan → CompScan) : (s.modComp c f).probes = s.probes := rfl
@[simp] theorem State.modComp_comps (c : Comp) (f : CompScan → CompScan) :
    (s.modComp c f).comps = modAt s.comps c f := rfl
@[simp] theorem State.modComp_watches (c : Comp) (f : CompScan → CompScan) :
    (s.modComp c f).watches = s.watches := rfl
@[simp] theorem State.modComp_doors (c : Comp) (f : CompScan → CompScan) : (s.modComp c f).doors = s.doors := rfl
@[simp] theorem State.modComp_defrosts (c : Comp) (f : CompScan → CompScan) :
    (s.modComp c f).defrosts = s.defrosts := rfl
@[simp] theorem State.modComp_bases (c : Comp) (f : CompScan → CompScan) : (s.modComp c f).bases = s.bases := rfl
@[simp] theorem State.modComp_lots (c : Comp) (f : CompScan → CompScan) : (s.modComp c f).lots = s.lots := rfl
@[simp] theorem State.modComp_route (c : Comp) (f : CompScan → CompScan) : (s.modComp c f).route = s.route := rfl
@[simp] theorem State.modComp_stops (c : Comp) (f : CompScan → CompScan) : (s.modComp c f).stops = s.stops := rfl
@[simp] theorem State.modComp_handoffs (c : Comp) (f : CompScan → CompScan) :
    (s.modComp c f).handoffs = s.handoffs := rfl
@[simp] theorem State.modComp_claims (c : Comp) (f : CompScan → CompScan) : (s.modComp c f).claims = s.claims := rfl
@[simp] theorem State.modComp_nextClaim (c : Comp) (f : CompScan → CompScan) :
    (s.modComp c f).nextClaim = s.nextClaim := rfl
@[simp] theorem State.modComp_assessor (c : Comp) (f : CompScan → CompScan) :
    (s.modComp c f).assessor = s.assessor := rfl
@[simp] theorem State.modComp_ports (c : Comp) (f : CompScan → CompScan) : (s.modComp c f).ports = s.ports := rfl
@[simp] theorem State.modComp_report (c : Comp) (f : CompScan → CompScan) : (s.modComp c f).report = s.report := rfl
@[simp] theorem State.modComp_draws (c : Comp) (f : CompScan → CompScan) : (s.modComp c f).draws = s.draws := rfl

/-! ### modProbe -/

@[simp] theorem State.modProbe_pending (i : Probe) (f : ProbeState → ProbeState) :
    (s.modProbe i f).pending = s.pending := rfl
@[simp] theorem State.modProbe_phase (i : Probe) (f : ProbeState → ProbeState) :
    (s.modProbe i f).phase = s.phase := rfl
@[simp] theorem State.modProbe_settings (i : Probe) (f : ProbeState → ProbeState) :
    (s.modProbe i f).settings = s.settings := rfl
@[simp] theorem State.modProbe_store (i : Probe) (f : ProbeState → ProbeState) :
    (s.modProbe i f).store = s.store := rfl
@[simp] theorem State.modProbe_storeWrite (i : Probe) (f : ProbeState → ProbeState) :
    (s.modProbe i f).storeWrite = s.storeWrite := rfl
@[simp] theorem State.modProbe_defaulted (i : Probe) (f : ProbeState → ProbeState) :
    (s.modProbe i f).defaulted = s.defaulted := rfl
@[simp] theorem State.modProbe_restartTaken (i : Probe) (f : ProbeState → ProbeState) :
    (s.modProbe i f).restartTaken = s.restartTaken := rfl
@[simp] theorem State.modProbe_restartDue (i : Probe) (f : ProbeState → ProbeState) :
    (s.modProbe i f).restartDue = s.restartDue := rfl
@[simp] theorem State.modProbe_marker (i : Probe) (f : ProbeState → ProbeState) :
    (s.modProbe i f).marker = s.marker := rfl
@[simp] theorem State.modProbe_seconds (i : Probe) (f : ProbeState → ProbeState) :
    (s.modProbe i f).seconds = s.seconds := rfl
@[simp] theorem State.modProbe_subMs (i : Probe) (f : ProbeState → ProbeState) :
    (s.modProbe i f).subMs = s.subMs := rfl
@[simp] theorem State.modProbe_clockUnset (i : Probe) (f : ProbeState → ProbeState) :
    (s.modProbe i f).clockUnset = s.clockUnset := rfl
@[simp] theorem State.modProbe_scanner (i : Probe) (f : ProbeState → ProbeState) :
    (s.modProbe i f).scanner = s.scanner := rfl
@[simp] theorem State.modProbe_probes (i : Probe) (f : ProbeState → ProbeState) :
    (s.modProbe i f).probes = modAt s.probes i f := rfl
@[simp] theorem State.modProbe_comps (i : Probe) (f : ProbeState → ProbeState) :
    (s.modProbe i f).comps = s.comps := rfl
@[simp] theorem State.modProbe_watches (i : Probe) (f : ProbeState → ProbeState) :
    (s.modProbe i f).watches = s.watches := rfl
@[simp] theorem State.modProbe_doors (i : Probe) (f : ProbeState → ProbeState) :
    (s.modProbe i f).doors = s.doors := rfl
@[simp] theorem State.modProbe_defrosts (i : Probe) (f : ProbeState → ProbeState) :
    (s.modProbe i f).defrosts = s.defrosts := rfl
@[simp] theorem State.modProbe_bases (i : Probe) (f : ProbeState → ProbeState) :
    (s.modProbe i f).bases = s.bases := rfl
@[simp] theorem State.modProbe_lots (i : Probe) (f : ProbeState → ProbeState) : (s.modProbe i f).lots = s.lots := rfl
@[simp] theorem State.modProbe_route (i : Probe) (f : ProbeState → ProbeState) :
    (s.modProbe i f).route = s.route := rfl
@[simp] theorem State.modProbe_stops (i : Probe) (f : ProbeState → ProbeState) :
    (s.modProbe i f).stops = s.stops := rfl
@[simp] theorem State.modProbe_handoffs (i : Probe) (f : ProbeState → ProbeState) :
    (s.modProbe i f).handoffs = s.handoffs := rfl
@[simp] theorem State.modProbe_claims (i : Probe) (f : ProbeState → ProbeState) :
    (s.modProbe i f).claims = s.claims := rfl
@[simp] theorem State.modProbe_nextClaim (i : Probe) (f : ProbeState → ProbeState) :
    (s.modProbe i f).nextClaim = s.nextClaim := rfl
@[simp] theorem State.modProbe_assessor (i : Probe) (f : ProbeState → ProbeState) :
    (s.modProbe i f).assessor = s.assessor := rfl
@[simp] theorem State.modProbe_ports (i : Probe) (f : ProbeState → ProbeState) :
    (s.modProbe i f).ports = s.ports := rfl
@[simp] theorem State.modProbe_report (i : Probe) (f : ProbeState → ProbeState) :
    (s.modProbe i f).report = s.report := rfl
@[simp] theorem State.modProbe_draws (i : Probe) (f : ProbeState → ProbeState) :
    (s.modProbe i f).draws = s.draws := rfl

/-! ### modLot -/

@[simp] theorem State.modLot_pending (i : Slot) (f : Lot → Lot) : (s.modLot i f).pending = s.pending := rfl
@[simp] theorem State.modLot_phase (i : Slot) (f : Lot → Lot) : (s.modLot i f).phase = s.phase := rfl
@[simp] theorem State.modLot_settings (i : Slot) (f : Lot → Lot) : (s.modLot i f).settings = s.settings := rfl
@[simp] theorem State.modLot_store (i : Slot) (f : Lot → Lot) : (s.modLot i f).store = s.store := rfl
@[simp] theorem State.modLot_storeWrite (i : Slot) (f : Lot → Lot) : (s.modLot i f).storeWrite = s.storeWrite := rfl
@[simp] theorem State.modLot_defaulted (i : Slot) (f : Lot → Lot) : (s.modLot i f).defaulted = s.defaulted := rfl
@[simp] theorem State.modLot_restartTaken (i : Slot) (f : Lot → Lot) :
    (s.modLot i f).restartTaken = s.restartTaken := rfl
@[simp] theorem State.modLot_restartDue (i : Slot) (f : Lot → Lot) : (s.modLot i f).restartDue = s.restartDue := rfl
@[simp] theorem State.modLot_marker (i : Slot) (f : Lot → Lot) : (s.modLot i f).marker = s.marker := rfl
@[simp] theorem State.modLot_seconds (i : Slot) (f : Lot → Lot) : (s.modLot i f).seconds = s.seconds := rfl
@[simp] theorem State.modLot_subMs (i : Slot) (f : Lot → Lot) : (s.modLot i f).subMs = s.subMs := rfl
@[simp] theorem State.modLot_clockUnset (i : Slot) (f : Lot → Lot) : (s.modLot i f).clockUnset = s.clockUnset := rfl
@[simp] theorem State.modLot_scanner (i : Slot) (f : Lot → Lot) : (s.modLot i f).scanner = s.scanner := rfl
@[simp] theorem State.modLot_probes (i : Slot) (f : Lot → Lot) : (s.modLot i f).probes = s.probes := rfl
@[simp] theorem State.modLot_comps (i : Slot) (f : Lot → Lot) : (s.modLot i f).comps = s.comps := rfl
@[simp] theorem State.modLot_watches (i : Slot) (f : Lot → Lot) : (s.modLot i f).watches = s.watches := rfl
@[simp] theorem State.modLot_doors (i : Slot) (f : Lot → Lot) : (s.modLot i f).doors = s.doors := rfl
@[simp] theorem State.modLot_defrosts (i : Slot) (f : Lot → Lot) : (s.modLot i f).defrosts = s.defrosts := rfl
@[simp] theorem State.modLot_bases (i : Slot) (f : Lot → Lot) : (s.modLot i f).bases = s.bases := rfl
@[simp] theorem State.modLot_lots (i : Slot) (f : Lot → Lot) :
    (s.modLot i f).lots = modAt s.lots i (Option.map f) := rfl
@[simp] theorem State.modLot_route (i : Slot) (f : Lot → Lot) : (s.modLot i f).route = s.route := rfl
@[simp] theorem State.modLot_stops (i : Slot) (f : Lot → Lot) : (s.modLot i f).stops = s.stops := rfl
@[simp] theorem State.modLot_handoffs (i : Slot) (f : Lot → Lot) : (s.modLot i f).handoffs = s.handoffs := rfl
@[simp] theorem State.modLot_claims (i : Slot) (f : Lot → Lot) : (s.modLot i f).claims = s.claims := rfl
@[simp] theorem State.modLot_nextClaim (i : Slot) (f : Lot → Lot) : (s.modLot i f).nextClaim = s.nextClaim := rfl
@[simp] theorem State.modLot_assessor (i : Slot) (f : Lot → Lot) : (s.modLot i f).assessor = s.assessor := rfl
@[simp] theorem State.modLot_ports (i : Slot) (f : Lot → Lot) : (s.modLot i f).ports = s.ports := rfl
@[simp] theorem State.modLot_report (i : Slot) (f : Lot → Lot) : (s.modLot i f).report = s.report := rfl
@[simp] theorem State.modLot_draws (i : Slot) (f : Lot → Lot) : (s.modLot i f).draws = s.draws := rfl

/-! ### mapLots -/

@[simp] theorem State.mapLots_pending (f : Lot → Lot) : (s.mapLots f).pending = s.pending := rfl
@[simp] theorem State.mapLots_phase (f : Lot → Lot) : (s.mapLots f).phase = s.phase := rfl
@[simp] theorem State.mapLots_settings (f : Lot → Lot) : (s.mapLots f).settings = s.settings := rfl
@[simp] theorem State.mapLots_store (f : Lot → Lot) : (s.mapLots f).store = s.store := rfl
@[simp] theorem State.mapLots_storeWrite (f : Lot → Lot) : (s.mapLots f).storeWrite = s.storeWrite := rfl
@[simp] theorem State.mapLots_defaulted (f : Lot → Lot) : (s.mapLots f).defaulted = s.defaulted := rfl
@[simp] theorem State.mapLots_restartTaken (f : Lot → Lot) : (s.mapLots f).restartTaken = s.restartTaken := rfl
@[simp] theorem State.mapLots_restartDue (f : Lot → Lot) : (s.mapLots f).restartDue = s.restartDue := rfl
@[simp] theorem State.mapLots_marker (f : Lot → Lot) : (s.mapLots f).marker = s.marker := rfl
@[simp] theorem State.mapLots_seconds (f : Lot → Lot) : (s.mapLots f).seconds = s.seconds := rfl
@[simp] theorem State.mapLots_subMs (f : Lot → Lot) : (s.mapLots f).subMs = s.subMs := rfl
@[simp] theorem State.mapLots_clockUnset (f : Lot → Lot) : (s.mapLots f).clockUnset = s.clockUnset := rfl
@[simp] theorem State.mapLots_scanner (f : Lot → Lot) : (s.mapLots f).scanner = s.scanner := rfl
@[simp] theorem State.mapLots_probes (f : Lot → Lot) : (s.mapLots f).probes = s.probes := rfl
@[simp] theorem State.mapLots_comps (f : Lot → Lot) : (s.mapLots f).comps = s.comps := rfl
@[simp] theorem State.mapLots_watches (f : Lot → Lot) : (s.mapLots f).watches = s.watches := rfl
@[simp] theorem State.mapLots_doors (f : Lot → Lot) : (s.mapLots f).doors = s.doors := rfl
@[simp] theorem State.mapLots_defrosts (f : Lot → Lot) : (s.mapLots f).defrosts = s.defrosts := rfl
@[simp] theorem State.mapLots_bases (f : Lot → Lot) : (s.mapLots f).bases = s.bases := rfl
@[simp] theorem State.mapLots_lots (f : Lot → Lot) : (s.mapLots f).lots = mapV (Option.map f) s.lots := rfl
@[simp] theorem State.mapLots_route (f : Lot → Lot) : (s.mapLots f).route = s.route := rfl
@[simp] theorem State.mapLots_stops (f : Lot → Lot) : (s.mapLots f).stops = s.stops := rfl
@[simp] theorem State.mapLots_handoffs (f : Lot → Lot) : (s.mapLots f).handoffs = s.handoffs := rfl
@[simp] theorem State.mapLots_claims (f : Lot → Lot) : (s.mapLots f).claims = s.claims := rfl
@[simp] theorem State.mapLots_nextClaim (f : Lot → Lot) : (s.mapLots f).nextClaim = s.nextClaim := rfl
@[simp] theorem State.mapLots_assessor (f : Lot → Lot) : (s.mapLots f).assessor = s.assessor := rfl
@[simp] theorem State.mapLots_ports (f : Lot → Lot) : (s.mapLots f).ports = s.ports := rfl
@[simp] theorem State.mapLots_report (f : Lot → Lot) : (s.mapLots f).report = s.report := rfl
@[simp] theorem State.mapLots_draws (f : Lot → Lot) : (s.mapLots f).draws = s.draws := rfl

/-! ### modHandoff -/

@[simp] theorem State.modHandoff_pending (j : HIndex) (f : Handoff → Handoff) :
    (s.modHandoff j f).pending = s.pending := rfl
@[simp] theorem State.modHandoff_phase (j : HIndex) (f : Handoff → Handoff) :
    (s.modHandoff j f).phase = s.phase := rfl
@[simp] theorem State.modHandoff_settings (j : HIndex) (f : Handoff → Handoff) :
    (s.modHandoff j f).settings = s.settings := rfl
@[simp] theorem State.modHandoff_store (j : HIndex) (f : Handoff → Handoff) :
    (s.modHandoff j f).store = s.store := rfl
@[simp] theorem State.modHandoff_storeWrite (j : HIndex) (f : Handoff → Handoff) :
    (s.modHandoff j f).storeWrite = s.storeWrite := rfl
@[simp] theorem State.modHandoff_defaulted (j : HIndex) (f : Handoff → Handoff) :
    (s.modHandoff j f).defaulted = s.defaulted := rfl
@[simp] theorem State.modHandoff_restartTaken (j : HIndex) (f : Handoff → Handoff) :
    (s.modHandoff j f).restartTaken = s.restartTaken := rfl
@[simp] theorem State.modHandoff_restartDue (j : HIndex) (f : Handoff → Handoff) :
    (s.modHandoff j f).restartDue = s.restartDue := rfl
@[simp] theorem State.modHandoff_marker (j : HIndex) (f : Handoff → Handoff) :
    (s.modHandoff j f).marker = s.marker := rfl
@[simp] theorem State.modHandoff_seconds (j : HIndex) (f : Handoff → Handoff) :
    (s.modHandoff j f).seconds = s.seconds := rfl
@[simp] theorem State.modHandoff_subMs (j : HIndex) (f : Handoff → Handoff) :
    (s.modHandoff j f).subMs = s.subMs := rfl
@[simp] theorem State.modHandoff_clockUnset (j : HIndex) (f : Handoff → Handoff) :
    (s.modHandoff j f).clockUnset = s.clockUnset := rfl
@[simp] theorem State.modHandoff_scanner (j : HIndex) (f : Handoff → Handoff) :
    (s.modHandoff j f).scanner = s.scanner := rfl
@[simp] theorem State.modHandoff_probes (j : HIndex) (f : Handoff → Handoff) :
    (s.modHandoff j f).probes = s.probes := rfl
@[simp] theorem State.modHandoff_comps (j : HIndex) (f : Handoff → Handoff) :
    (s.modHandoff j f).comps = s.comps := rfl
@[simp] theorem State.modHandoff_watches (j : HIndex) (f : Handoff → Handoff) :
    (s.modHandoff j f).watches = s.watches := rfl
@[simp] theorem State.modHandoff_doors (j : HIndex) (f : Handoff → Handoff) :
    (s.modHandoff j f).doors = s.doors := rfl
@[simp] theorem State.modHandoff_defrosts (j : HIndex) (f : Handoff → Handoff) :
    (s.modHandoff j f).defrosts = s.defrosts := rfl
@[simp] theorem State.modHandoff_bases (j : HIndex) (f : Handoff → Handoff) :
    (s.modHandoff j f).bases = s.bases := rfl
@[simp] theorem State.modHandoff_lots (j : HIndex) (f : Handoff → Handoff) : (s.modHandoff j f).lots = s.lots := rfl
@[simp] theorem State.modHandoff_route (j : HIndex) (f : Handoff → Handoff) :
    (s.modHandoff j f).route = s.route := rfl
@[simp] theorem State.modHandoff_stops (j : HIndex) (f : Handoff → Handoff) :
    (s.modHandoff j f).stops = s.stops := rfl
@[simp] theorem State.modHandoff_handoffs (j : HIndex) (f : Handoff → Handoff) :
    (s.modHandoff j f).handoffs = modAt s.handoffs j (Option.map f) := rfl
@[simp] theorem State.modHandoff_claims (j : HIndex) (f : Handoff → Handoff) :
    (s.modHandoff j f).claims = s.claims := rfl
@[simp] theorem State.modHandoff_nextClaim (j : HIndex) (f : Handoff → Handoff) :
    (s.modHandoff j f).nextClaim = s.nextClaim := rfl
@[simp] theorem State.modHandoff_assessor (j : HIndex) (f : Handoff → Handoff) :
    (s.modHandoff j f).assessor = s.assessor := rfl
@[simp] theorem State.modHandoff_ports (j : HIndex) (f : Handoff → Handoff) :
    (s.modHandoff j f).ports = s.ports := rfl
@[simp] theorem State.modHandoff_report (j : HIndex) (f : Handoff → Handoff) :
    (s.modHandoff j f).report = s.report := rfl
@[simp] theorem State.modHandoff_draws (j : HIndex) (f : Handoff → Handoff) :
    (s.modHandoff j f).draws = s.draws := rfl

/-! ### modStop -/

@[simp] theorem State.modStop_pending (n : StopNo) (f : Stop → Stop) : (s.modStop n f).pending = s.pending := rfl
@[simp] theorem State.modStop_phase (n : StopNo) (f : Stop → Stop) : (s.modStop n f).phase = s.phase := rfl
@[simp] theorem State.modStop_settings (n : StopNo) (f : Stop → Stop) : (s.modStop n f).settings = s.settings := rfl
@[simp] theorem State.modStop_store (n : StopNo) (f : Stop → Stop) : (s.modStop n f).store = s.store := rfl
@[simp] theorem State.modStop_storeWrite (n : StopNo) (f : Stop → Stop) :
    (s.modStop n f).storeWrite = s.storeWrite := rfl
@[simp] theorem State.modStop_defaulted (n : StopNo) (f : Stop → Stop) :
    (s.modStop n f).defaulted = s.defaulted := rfl
@[simp] theorem State.modStop_restartTaken (n : StopNo) (f : Stop → Stop) :
    (s.modStop n f).restartTaken = s.restartTaken := rfl
@[simp] theorem State.modStop_restartDue (n : StopNo) (f : Stop → Stop) :
    (s.modStop n f).restartDue = s.restartDue := rfl
@[simp] theorem State.modStop_marker (n : StopNo) (f : Stop → Stop) : (s.modStop n f).marker = s.marker := rfl
@[simp] theorem State.modStop_seconds (n : StopNo) (f : Stop → Stop) : (s.modStop n f).seconds = s.seconds := rfl
@[simp] theorem State.modStop_subMs (n : StopNo) (f : Stop → Stop) : (s.modStop n f).subMs = s.subMs := rfl
@[simp] theorem State.modStop_clockUnset (n : StopNo) (f : Stop → Stop) :
    (s.modStop n f).clockUnset = s.clockUnset := rfl
@[simp] theorem State.modStop_scanner (n : StopNo) (f : Stop → Stop) : (s.modStop n f).scanner = s.scanner := rfl
@[simp] theorem State.modStop_probes (n : StopNo) (f : Stop → Stop) : (s.modStop n f).probes = s.probes := rfl
@[simp] theorem State.modStop_comps (n : StopNo) (f : Stop → Stop) : (s.modStop n f).comps = s.comps := rfl
@[simp] theorem State.modStop_watches (n : StopNo) (f : Stop → Stop) : (s.modStop n f).watches = s.watches := rfl
@[simp] theorem State.modStop_doors (n : StopNo) (f : Stop → Stop) : (s.modStop n f).doors = s.doors := rfl
@[simp] theorem State.modStop_defrosts (n : StopNo) (f : Stop → Stop) : (s.modStop n f).defrosts = s.defrosts := rfl
@[simp] theorem State.modStop_bases (n : StopNo) (f : Stop → Stop) : (s.modStop n f).bases = s.bases := rfl
@[simp] theorem State.modStop_lots (n : StopNo) (f : Stop → Stop) : (s.modStop n f).lots = s.lots := rfl
@[simp] theorem State.modStop_route (n : StopNo) (f : Stop → Stop) : (s.modStop n f).route = s.route := rfl
@[simp] theorem State.modStop_stops (n : StopNo) (f : Stop → Stop) :
    (s.modStop n f).stops = modAt s.stops n (Option.map f) := rfl
@[simp] theorem State.modStop_handoffs (n : StopNo) (f : Stop → Stop) : (s.modStop n f).handoffs = s.handoffs := rfl
@[simp] theorem State.modStop_claims (n : StopNo) (f : Stop → Stop) : (s.modStop n f).claims = s.claims := rfl
@[simp] theorem State.modStop_nextClaim (n : StopNo) (f : Stop → Stop) :
    (s.modStop n f).nextClaim = s.nextClaim := rfl
@[simp] theorem State.modStop_assessor (n : StopNo) (f : Stop → Stop) : (s.modStop n f).assessor = s.assessor := rfl
@[simp] theorem State.modStop_ports (n : StopNo) (f : Stop → Stop) : (s.modStop n f).ports = s.ports := rfl
@[simp] theorem State.modStop_report (n : StopNo) (f : Stop → Stop) : (s.modStop n f).report = s.report := rfl
@[simp] theorem State.modStop_draws (n : StopNo) (f : Stop → Stop) : (s.modStop n f).draws = s.draws := rfl

/-! ### modClaim -/

@[simp] theorem State.modClaim_pending (n : Nat) (f : Claim → Claim) : (s.modClaim n f).pending = s.pending := rfl
@[simp] theorem State.modClaim_phase (n : Nat) (f : Claim → Claim) : (s.modClaim n f).phase = s.phase := rfl
@[simp] theorem State.modClaim_settings (n : Nat) (f : Claim → Claim) : (s.modClaim n f).settings = s.settings := rfl
@[simp] theorem State.modClaim_store (n : Nat) (f : Claim → Claim) : (s.modClaim n f).store = s.store := rfl
@[simp] theorem State.modClaim_storeWrite (n : Nat) (f : Claim → Claim) :
    (s.modClaim n f).storeWrite = s.storeWrite := rfl
@[simp] theorem State.modClaim_defaulted (n : Nat) (f : Claim → Claim) :
    (s.modClaim n f).defaulted = s.defaulted := rfl
@[simp] theorem State.modClaim_restartTaken (n : Nat) (f : Claim → Claim) :
    (s.modClaim n f).restartTaken = s.restartTaken := rfl
@[simp] theorem State.modClaim_restartDue (n : Nat) (f : Claim → Claim) :
    (s.modClaim n f).restartDue = s.restartDue := rfl
@[simp] theorem State.modClaim_marker (n : Nat) (f : Claim → Claim) : (s.modClaim n f).marker = s.marker := rfl
@[simp] theorem State.modClaim_seconds (n : Nat) (f : Claim → Claim) : (s.modClaim n f).seconds = s.seconds := rfl
@[simp] theorem State.modClaim_subMs (n : Nat) (f : Claim → Claim) : (s.modClaim n f).subMs = s.subMs := rfl
@[simp] theorem State.modClaim_clockUnset (n : Nat) (f : Claim → Claim) :
    (s.modClaim n f).clockUnset = s.clockUnset := rfl
@[simp] theorem State.modClaim_scanner (n : Nat) (f : Claim → Claim) : (s.modClaim n f).scanner = s.scanner := rfl
@[simp] theorem State.modClaim_probes (n : Nat) (f : Claim → Claim) : (s.modClaim n f).probes = s.probes := rfl
@[simp] theorem State.modClaim_comps (n : Nat) (f : Claim → Claim) : (s.modClaim n f).comps = s.comps := rfl
@[simp] theorem State.modClaim_watches (n : Nat) (f : Claim → Claim) : (s.modClaim n f).watches = s.watches := rfl
@[simp] theorem State.modClaim_doors (n : Nat) (f : Claim → Claim) : (s.modClaim n f).doors = s.doors := rfl
@[simp] theorem State.modClaim_defrosts (n : Nat) (f : Claim → Claim) : (s.modClaim n f).defrosts = s.defrosts := rfl
@[simp] theorem State.modClaim_bases (n : Nat) (f : Claim → Claim) : (s.modClaim n f).bases = s.bases := rfl
@[simp] theorem State.modClaim_lots (n : Nat) (f : Claim → Claim) : (s.modClaim n f).lots = s.lots := rfl
@[simp] theorem State.modClaim_route (n : Nat) (f : Claim → Claim) : (s.modClaim n f).route = s.route := rfl
@[simp] theorem State.modClaim_stops (n : Nat) (f : Claim → Claim) : (s.modClaim n f).stops = s.stops := rfl
@[simp] theorem State.modClaim_handoffs (n : Nat) (f : Claim → Claim) : (s.modClaim n f).handoffs = s.handoffs := rfl
@[simp] theorem State.modClaim_claims (n : Nat) (f : Claim → Claim) :
    (s.modClaim n f).claims = s.claims.map fun c => if c.number = n then f c else c := rfl
@[simp] theorem State.modClaim_nextClaim (n : Nat) (f : Claim → Claim) :
    (s.modClaim n f).nextClaim = s.nextClaim := rfl
@[simp] theorem State.modClaim_assessor (n : Nat) (f : Claim → Claim) : (s.modClaim n f).assessor = s.assessor := rfl
@[simp] theorem State.modClaim_ports (n : Nat) (f : Claim → Claim) : (s.modClaim n f).ports = s.ports := rfl
@[simp] theorem State.modClaim_report (n : Nat) (f : Claim → Claim) : (s.modClaim n f).report = s.report := rfl
@[simp] theorem State.modClaim_draws (n : Nat) (f : Claim → Claim) : (s.modClaim n f).draws = s.draws := rfl

/-! ### post -/

@[simp] theorem State.post_pending (b : NoticeBody) : (s.post b).pending = s.pending := rfl
@[simp] theorem State.post_phase (b : NoticeBody) : (s.post b).phase = s.phase := rfl
@[simp] theorem State.post_settings (b : NoticeBody) : (s.post b).settings = s.settings := rfl
@[simp] theorem State.post_store (b : NoticeBody) : (s.post b).store = s.store := rfl
@[simp] theorem State.post_storeWrite (b : NoticeBody) : (s.post b).storeWrite = s.storeWrite := rfl
@[simp] theorem State.post_defaulted (b : NoticeBody) : (s.post b).defaulted = s.defaulted := rfl
@[simp] theorem State.post_restartTaken (b : NoticeBody) : (s.post b).restartTaken = s.restartTaken := rfl
@[simp] theorem State.post_restartDue (b : NoticeBody) : (s.post b).restartDue = s.restartDue := rfl
@[simp] theorem State.post_marker (b : NoticeBody) : (s.post b).marker = s.marker := rfl
@[simp] theorem State.post_seconds (b : NoticeBody) : (s.post b).seconds = s.seconds := rfl
@[simp] theorem State.post_subMs (b : NoticeBody) : (s.post b).subMs = s.subMs := rfl
@[simp] theorem State.post_clockUnset (b : NoticeBody) : (s.post b).clockUnset = s.clockUnset := rfl
@[simp] theorem State.post_scanner (b : NoticeBody) : (s.post b).scanner = s.scanner := rfl
@[simp] theorem State.post_probes (b : NoticeBody) : (s.post b).probes = s.probes := rfl
@[simp] theorem State.post_comps (b : NoticeBody) : (s.post b).comps = s.comps := rfl
@[simp] theorem State.post_watches (b : NoticeBody) : (s.post b).watches = s.watches := rfl
@[simp] theorem State.post_doors (b : NoticeBody) : (s.post b).doors = s.doors := rfl
@[simp] theorem State.post_defrosts (b : NoticeBody) : (s.post b).defrosts = s.defrosts := rfl
@[simp] theorem State.post_bases (b : NoticeBody) : (s.post b).bases = s.bases := rfl
@[simp] theorem State.post_lots (b : NoticeBody) : (s.post b).lots = s.lots := rfl
@[simp] theorem State.post_route (b : NoticeBody) : (s.post b).route = s.route := rfl
@[simp] theorem State.post_stops (b : NoticeBody) : (s.post b).stops = s.stops := rfl
@[simp] theorem State.post_handoffs (b : NoticeBody) : (s.post b).handoffs = s.handoffs := rfl
@[simp] theorem State.post_claims (b : NoticeBody) : (s.post b).claims = s.claims := rfl
@[simp] theorem State.post_nextClaim (b : NoticeBody) : (s.post b).nextClaim = s.nextClaim := rfl
@[simp] theorem State.post_assessor (b : NoticeBody) : (s.post b).assessor = s.assessor := rfl
@[simp] theorem State.post_ports (b : NoticeBody) :
    (s.post b).ports = mapV (PortState.enqueue ⟨b, s.seconds⟩) s.ports := rfl
@[simp] theorem State.post_report (b : NoticeBody) : (s.post b).report = s.report := rfl
@[simp] theorem State.post_draws (b : NoticeBody) : (s.post b).draws = s.draws := rfl

/-! ### postTo -/

@[simp] theorem State.postTo_pending (p : Port) (b : NoticeBody) : (s.postTo p b).pending = s.pending := rfl
@[simp] theorem State.postTo_phase (p : Port) (b : NoticeBody) : (s.postTo p b).phase = s.phase := rfl
@[simp] theorem State.postTo_settings (p : Port) (b : NoticeBody) : (s.postTo p b).settings = s.settings := rfl
@[simp] theorem State.postTo_store (p : Port) (b : NoticeBody) : (s.postTo p b).store = s.store := rfl
@[simp] theorem State.postTo_storeWrite (p : Port) (b : NoticeBody) : (s.postTo p b).storeWrite = s.storeWrite := rfl
@[simp] theorem State.postTo_defaulted (p : Port) (b : NoticeBody) : (s.postTo p b).defaulted = s.defaulted := rfl
@[simp] theorem State.postTo_restartTaken (p : Port) (b : NoticeBody) :
    (s.postTo p b).restartTaken = s.restartTaken := rfl
@[simp] theorem State.postTo_restartDue (p : Port) (b : NoticeBody) : (s.postTo p b).restartDue = s.restartDue := rfl
@[simp] theorem State.postTo_marker (p : Port) (b : NoticeBody) : (s.postTo p b).marker = s.marker := rfl
@[simp] theorem State.postTo_seconds (p : Port) (b : NoticeBody) : (s.postTo p b).seconds = s.seconds := rfl
@[simp] theorem State.postTo_subMs (p : Port) (b : NoticeBody) : (s.postTo p b).subMs = s.subMs := rfl
@[simp] theorem State.postTo_clockUnset (p : Port) (b : NoticeBody) : (s.postTo p b).clockUnset = s.clockUnset := rfl
@[simp] theorem State.postTo_scanner (p : Port) (b : NoticeBody) : (s.postTo p b).scanner = s.scanner := rfl
@[simp] theorem State.postTo_probes (p : Port) (b : NoticeBody) : (s.postTo p b).probes = s.probes := rfl
@[simp] theorem State.postTo_comps (p : Port) (b : NoticeBody) : (s.postTo p b).comps = s.comps := rfl
@[simp] theorem State.postTo_watches (p : Port) (b : NoticeBody) : (s.postTo p b).watches = s.watches := rfl
@[simp] theorem State.postTo_doors (p : Port) (b : NoticeBody) : (s.postTo p b).doors = s.doors := rfl
@[simp] theorem State.postTo_defrosts (p : Port) (b : NoticeBody) : (s.postTo p b).defrosts = s.defrosts := rfl
@[simp] theorem State.postTo_bases (p : Port) (b : NoticeBody) : (s.postTo p b).bases = s.bases := rfl
@[simp] theorem State.postTo_lots (p : Port) (b : NoticeBody) : (s.postTo p b).lots = s.lots := rfl
@[simp] theorem State.postTo_route (p : Port) (b : NoticeBody) : (s.postTo p b).route = s.route := rfl
@[simp] theorem State.postTo_stops (p : Port) (b : NoticeBody) : (s.postTo p b).stops = s.stops := rfl
@[simp] theorem State.postTo_handoffs (p : Port) (b : NoticeBody) : (s.postTo p b).handoffs = s.handoffs := rfl
@[simp] theorem State.postTo_claims (p : Port) (b : NoticeBody) : (s.postTo p b).claims = s.claims := rfl
@[simp] theorem State.postTo_nextClaim (p : Port) (b : NoticeBody) : (s.postTo p b).nextClaim = s.nextClaim := rfl
@[simp] theorem State.postTo_assessor (p : Port) (b : NoticeBody) : (s.postTo p b).assessor = s.assessor := rfl
@[simp] theorem State.postTo_ports (p : Port) (b : NoticeBody) :
    (s.postTo p b).ports = modAt s.ports p (PortState.enqueue ⟨b, s.seconds⟩) := rfl
@[simp] theorem State.postTo_report (p : Port) (b : NoticeBody) : (s.postTo p b).report = s.report := rfl
@[simp] theorem State.postTo_draws (p : Port) (b : NoticeBody) : (s.postTo p b).draws = s.draws := rfl

end Sys2Proof.Machine
end

