-- ==== Sys2Proof/Laws/Tables.lean ====
section
/-!
SUPPORT. Reading an entry of a table after one entry, or every entry, has been changed.
-/
namespace Sys2Proof

variable {α β : Type} {n : Nat}

@[simp] theorem get_setAt (v : Vector α n) (i j : Fin n) (x : α) :
    (setAt v i x).get j = if j = i then x else v.get j := by
  simp only [setAt, Vector.get_eq_getElem, Vector.getElem_set, Fin.ext_iff, eq_comm]

theorem get_setAt_self (v : Vector α n) (i : Fin n) (x : α) : (setAt v i x).get i = x := by simp

theorem get_setAt_ne (v : Vector α n) {i j : Fin n} (x : α) (h : j ≠ i) : (setAt v i x).get j = v.get j := by
  simp [h]

@[simp] theorem get_modAt (v : Vector α n) (i j : Fin n) (f : α → α) :
    (modAt v i f).get j = if j = i then f (v.get j) else v.get j := by
  by_cases h : j = i <;> simp [modAt, h]

@[simp] theorem get_mapV (f : α → β) (v : Vector α n) (i : Fin n) : (mapV f v).get i = f (v.get i) := by
  simp [mapV, Vector.get_eq_getElem, Vector.getElem_mk]

@[simp] theorem get_ofFn (f : Fin n → α) (i : Fin n) : (Vector.ofFn f).get i = f i := by
  simp [Vector.get_eq_getElem]

@[simp] theorem get_replicate (x : α) (i : Fin n) : (Vector.replicate n x).get i = x := by
  simp [Vector.get_eq_getElem]

/-- Two tables with the same entries are the same table. -/
theorem table_ext {v w : Vector α n} (h : ∀ i : Fin n, v.get i = w.get i) : v = w := by
  apply Vector.ext
  intro i hi
  exact h ⟨i, hi⟩

/-- A change that leaves the entry as it was leaves the table as it was. -/
theorem modAt_eq_self (v : Vector α n) (i : Fin n) (f : α → α) (h : f (v.get i) = v.get i) : modAt v i f = v := by
  apply table_ext
  intro j
  by_cases hj : j = i
  · subst hj
    simp [h]
  · simp [hj]

/-- Two changes of one entry, one after the other. -/
theorem modAt_modAt (v : Vector α n) (i : Fin n) (f g : α → α) : modAt (modAt v i f) i g = modAt v i (g ∘ f) := by
  apply table_ext
  intro j
  by_cases hj : j = i <;> simp [hj]

/-- A property that every entry has, read off the list of entries. -/
theorem all_toList (v : Vector α n) (f : α → Bool) : v.toList.all f = true ↔ ∀ i : Fin n, f (v.get i) = true := by
  simp only [List.all_eq_true, Vector.mem_toList_iff, Vector.mem_iff_getElem, Vector.get_eq_getElem]
  constructor
  · intro h i
    exact h _ ⟨i.val, i.isLt, rfl⟩
  · rintro h x ⟨i, hi, rfl⟩
    exact h ⟨i, hi⟩

/-- A property that some entry has, read off the list of entries. -/
theorem any_toList (v : Vector α n) (f : α → Bool) : v.toList.any f = true ↔ ∃ i : Fin n, f (v.get i) = true := by
  simp only [List.any_eq_true, Vector.mem_toList_iff, Vector.mem_iff_getElem, Vector.get_eq_getElem]
  constructor
  · rintro ⟨x, ⟨i, hi, rfl⟩, h⟩
    exact ⟨⟨i, hi⟩, h⟩
  · rintro ⟨i, h⟩
    exact ⟨_, ⟨i.val, i.isLt, rfl⟩, h⟩

end Sys2Proof
end

