-- ==== Sys2Proof/Laws/Requests.lean ====
section
/-!
SUPPORT. What taking and answering a request can do, said once: the response changes one port alone (R161, R162, R165),
and a request that may act does so (R162, R164).
-/
namespace Sys2Proof.Machine

/-- The attention code of a port reads the ports only through the dropped urgent flag of that port (R177). -/
theorem attention_modPort (s : State) (p : Port) (f : PortState → PortState)
    (h : ∀ ps, (f ps).droppedUrgent = ps.droppedUrgent) : attention (s.modPort p f) p = attention s p := by
  have hold : attentionHolds (s.modPort p f) p = attentionHolds s p := by
    funext n
    unfold attentionHolds
    split <;> simp [h, State.currentStop]
  simp [attention, hold]

/-- The refusal record of a port after a response with this status (R165). -/
def PortState.refused (kind : Byte) (status : Status) (now : Time) (ps : PortState) : PortState :=
  if status.isRefusal then { ps with refusal := some ⟨kind, status, now⟩, refusals := satAdd 8 ps.refusals 1 } else ps

/-- The port after a response has been made; `code` is its attention code if it begins at once (R161, R163). -/
def PortState.answering (r : Response) (code : Nat) (ps : PortState) : PortState :=
  { ps with request := some r, tx := match ps.tx with
    | none => some (.response r code)
    | some f => some f }

theorem recordRefusal_eq (s : State) (p : Port) (kind : Byte) (status : Status) :
    s.recordRefusal p kind status = s.modPort p (PortState.refused kind status s.seconds) := by
  unfold State.recordRefusal
  split
  · rename_i h
    simp only [State.modPort]
    congr 1
    apply table_ext
    intro q
    by_cases hq : q = p <;> simp [hq, PortState.refused, h]
  · rename_i h
    simp only [State.modPort]
    rw [modAt_eq_self]
    simp [PortState.refused, h]

theorem refused_keeps (kind : Byte) (status : Status) (now : Time) (ps : PortState) :
    (ps.refused kind status now).tx = ps.tx ∧ (ps.refused kind status now).droppedUrgent = ps.droppedUrgent := by
  unfold PortState.refused
  split <;> exact ⟨rfl, rfl⟩

/-- Two changes of one port, one after the other. -/
theorem modPort_modPort (s : State) (p : Port) (f g : PortState → PortState) :
    (s.modPort p f).modPort p g = s.modPort p (g ∘ f) := by
  simp only [State.modPort, modAt_modAt]

/-- Two changes of port `p` that give the same port are the same change. -/
theorem modPort_congr (s : State) (p : Port) (f g : PortState → PortState)
    (h : f (s.ports.get p) = g (s.ports.get p)) : s.modPort p f = s.modPort p g := by
  simp only [State.modPort]
  congr 1
  apply table_ext
  intro q
  by_cases hq : q = p
  · subst hq
    simp [h]
  · simp [hq]

/-- Answering changes port `p` alone: its refusal record, its request state and, if it is free, its transmitter. -/
theorem respond_eq (p : Port) (kind answer tag : Byte) (r : Reply) :
    State.respond p kind answer tag r =
      r.state.modPort p (fun ps =>
        (ps.refused kind r.status r.state.seconds).answering ⟨answer, r.status, tag, r.body, r.after⟩
          (attention r.state p)) := by
  have keeps := refused_keeps kind r.status r.state.seconds
  unfold State.respond State.beginResponse
  rw [recordRefusal_eq]
  simp only [modPort_modPort]
  simp only [State.modPort_ports, get_modAt, ↓reduceIte, Function.comp, (keeps _).1]
  cases hp : (r.state.ports.get p).tx with
  | none =>
    simp only
    rw [attention_modPort r.state p
      ((fun ps : PortState => { ps with request := some ⟨answer, r.status, tag, r.body, r.after⟩ })
        ∘ PortState.refused kind r.status r.state.seconds) (fun ps => (keeps ps).2)]
    apply modPort_congr
    simp [PortState.answering, (keeps _).1, hp]
  | some f =>
    simp only
    apply modPort_congr
    simp [PortState.answering, (keeps _).1, hp]

/-! ### Answering, field by field -/

@[simp] theorem respond_pending (p : Port) (kind answer tag : Byte) (r : Reply) :
    (State.respond p kind answer tag r).pending = r.state.pending := by
  rw [respond_eq]; rfl
@[simp] theorem respond_phase (p : Port) (kind answer tag : Byte) (r : Reply) :
    (State.respond p kind answer tag r).phase = r.state.phase := by
  rw [respond_eq]; rfl
@[simp] theorem respond_settings (p : Port) (kind answer tag : Byte) (r : Reply) :
    (State.respond p kind answer tag r).settings = r.state.settings := by
  rw [respond_eq]; rfl
@[simp] theorem respond_store (p : Port) (kind answer tag : Byte) (r : Reply) :
    (State.respond p kind answer tag r).store = r.state.store := by
  rw [respond_eq]; rfl
@[simp] theorem respond_storeWrite (p : Port) (kind answer tag : Byte) (r : Reply) :
    (State.respond p kind answer tag r).storeWrite = r.state.storeWrite := by
  rw [respond_eq]; rfl
@[simp] theorem respond_defaulted (p : Port) (kind answer tag : Byte) (r : Reply) :
    (State.respond p kind answer tag r).defaulted = r.state.defaulted := by
  rw [respond_eq]; rfl
@[simp] theorem respond_restartTaken (p : Port) (kind answer tag : Byte) (r : Reply) :
    (State.respond p kind answer tag r).restartTaken = r.state.restartTaken := by
  rw [respond_eq]; rfl
@[simp] theorem respond_restartDue (p : Port) (kind answer tag : Byte) (r : Reply) :
    (State.respond p kind answer tag r).restartDue = r.state.restartDue := by
  rw [respond_eq]; rfl
@[simp] theorem respond_marker (p : Port) (kind answer tag : Byte) (r : Reply) :
    (State.respond p kind answer tag r).marker = r.state.marker := by
  rw [respond_eq]; rfl
@[simp] theorem respond_seconds (p : Port) (kind answer tag : Byte) (r : Reply) :
    (State.respond p kind answer tag r).seconds = r.state.seconds := by
  rw [respond_eq]; rfl
@[simp] theorem respond_subMs (p : Port) (kind answer tag : Byte) (r : Reply) :
    (State.respond p kind answer tag r).subMs = r.state.subMs := by
  rw [respond_eq]; rfl
@[simp] theorem respond_clockUnset (p : Port) (kind answer tag : Byte) (r : Reply) :
    (State.respond p kind answer tag r).clockUnset = r.state.clockUnset := by
  rw [respond_eq]; rfl
@[simp] theorem respond_scanner (p : Port) (kind answer tag : Byte) (r : Reply) :
    (State.respond p kind answer tag r).scanner = r.state.scanner := by
  rw [respond_eq]; rfl
@[simp] theorem respond_probes (p : Port) (kind answer tag : Byte) (r : Reply) :
    (State.respond p kind answer tag r).probes = r.state.probes := by
  rw [respond_eq]; rfl
@[simp] theorem respond_comps (p : Port) (kind answer tag : Byte) (r : Reply) :
    (State.respond p kind answer tag r).comps = r.state.comps := by
  rw [respond_eq]; rfl
@[simp] theorem respond_watches (p : Port) (kind answer tag : Byte) (r : Reply) :
    (State.respond p kind answer tag r).watches = r.state.watches := by
  rw [respond_eq]; rfl
@[simp] theorem respond_doors (p : Port) (kind answer tag : Byte) (r : Reply) :
    (State.respond p kind answer tag r).doors = r.state.doors := by
  rw [respond_eq]; rfl
@[simp] theorem respond_defrosts (p : Port) (kind answer tag : Byte) (r : Reply) :
    (State.respond p kind answer tag r).defrosts = r.state.defrosts := by
  rw [respond_eq]; rfl
@[simp] theorem respond_bases (p : Port) (kind answer tag : Byte) (r : Reply) :
    (State.respond p kind answer tag r).bases = r.state.bases := by
  rw [respond_eq]; rfl
@[simp] theorem respond_lots (p : Port) (kind answer tag : Byte) (r : Reply) :
    (State.respond p kind answer tag r).lots = r.state.lots := by
  rw [respond_eq]; rfl
@[simp] theorem respond_route (p : Port) (kind answer tag : Byte) (r : Reply) :
    (State.respond p kind answer tag r).route = r.state.route := by
  rw [respond_eq]; rfl
@[simp] theorem respond_stops (p : Port) (kind answer tag : Byte) (r : Reply) :
    (State.respond p kind answer tag r).stops = r.state.stops := by
  rw [respond_eq]; rfl
@[simp] theorem respond_handoffs (p : Port) (kind answer tag : Byte) (r : Reply) :
    (State.respond p kind answer tag r).handoffs = r.state.handoffs := by
  rw [respond_eq]; rfl
@[simp] theorem respond_claims (p : Port) (kind answer tag : Byte) (r : Reply) :
    (State.respond p kind answer tag r).claims = r.state.claims := by
  rw [respond_eq]; rfl
@[simp] theorem respond_nextClaim (p : Port) (kind answer tag : Byte) (r : Reply) :
    (State.respond p kind answer tag r).nextClaim = r.state.nextClaim := by
  rw [respond_eq]; rfl
@[simp] theorem respond_assessor (p : Port) (kind answer tag : Byte) (r : Reply) :
    (State.respond p kind answer tag r).assessor = r.state.assessor := by
  rw [respond_eq]; rfl
@[simp] theorem respond_report (p : Port) (kind answer tag : Byte) (r : Reply) :
    (State.respond p kind answer tag r).report = r.state.report := by
  rw [respond_eq]; rfl
@[simp] theorem respond_draws (p : Port) (kind answer tag : Byte) (r : Reply) :
    (State.respond p kind answer tag r).draws = r.state.draws := by
  rw [respond_eq]; rfl

/-- A port other than the one that answers keeps everything. -/
theorem respond_other (p q : Port) (kind answer tag : Byte) (r : Reply) (h : q ≠ p) :
    (State.respond p kind answer tag r).ports.get q = r.state.ports.get q := by
  rw [respond_eq]
  simp [h]

/-- The response that the port holds after a request has been answered. -/
theorem respond_request (p : Port) (kind answer tag : Byte) (r : Reply) :
    ((State.respond p kind answer tag r).ports.get p).request = some ⟨answer, r.status, tag, r.body, r.after⟩ := by
  rw [respond_eq]
  simp [PortState.answering]

/-- A request that the port takes, from a role with the right to it, acts under its own rule (R162, steps 1 and 3). -/
theorem takeRequest_taken {s : State} {p : Port} {kind : Byte} (tag : Byte) (act : State → Reply)
    (h : s.takes p kind) :
    takeRequest p kind tag act s = State.respond p kind (answerKind kind) tag (act s) := by
  obtain ⟨hphase, hrx, hreq, hright⟩ := h
  have hears : s.hears p = true := by simp [State.hears, hphase, hrx]
  simp [takeRequest, hears, hreq, hphase, hright]

/-- While STARTING a taken request is answered NOT_READY (R162, step 1). -/
theorem takeRequest_starting {s : State} {p : Port} {cause : StartCause} (kind tag : Byte) (act : State → Reply)
    (hphase : s.phase = .starting cause) (hrx : (s.ports.get p).rx ≠ .broken) (hreq : (s.ports.get p).request = none) :
    takeRequest p kind tag act s = State.respond p kind (answerKind kind) tag (reply .notReady s) := by
  have hears : s.hears p = true := by simp [State.hears, hphase, hrx]
  simp [takeRequest, hears, hreq, hphase]

/-- A role without the right is answered NO_RIGHT (R162, step 3; R164). -/
theorem takeRequest_noRight {s : State} {p : Port} {kind : Byte} (tag : Byte) (act : State → Reply)
    (hphase : s.phase = .ready) (hrx : (s.ports.get p).rx ≠ .broken) (hreq : (s.ports.get p).request = none)
    (hright : hasRight kind (s.ports.get p).role = false) :
    takeRequest p kind tag act s = State.respond p kind (answerKind kind) tag (reply .noRight s) := by
  have hears : s.hears p = true := by simp [State.hears, hphase, hrx]
  simp [takeRequest, hears, hreq, hphase, hright]

/-- A frame that comes while the port is ANSWERING is lost (R161). -/
theorem takeRequest_answering {s : State} {p : Port} (kind tag : Byte) (act : State → Reply)
    (hears : s.hears p = true) (hreq : (s.ports.get p).request.isSome = true) :
    takeRequest p kind tag act s = s.modPort p fun ps => { ps with lost := satAdd 16 ps.lost 1 } := by
  simp [takeRequest, hears, hreq]

/-- Everything that taking a request can do: nothing, a lost frame, or an answer, in which the request acts under its
own rule only if the machine is READY and the role has the right. -/
theorem takeRequest_cases (p : Port) (kind tag : Byte) (act : State → Reply) (s : State) :
    takeRequest p kind tag act s = s ∨
    takeRequest p kind tag act s = s.modPort p (fun ps => { ps with lost := satAdd 16 ps.lost 1 }) ∨
    (s.takes p kind ∧ takeRequest p kind tag act s = State.respond p kind (answerKind kind) tag (act s)) ∨
    takeRequest p kind tag act s = State.respond p kind (answerKind kind) tag (reply .noRight s) ∨
    takeRequest p kind tag act s = State.respond p kind (answerKind kind) tag (reply .notReady s) := by
  by_cases hears : s.hears p = true
  · by_cases hreq : (s.ports.get p).request.isSome = true
    · exact .inr (.inl (takeRequest_answering kind tag act hears hreq))
    · have hnone : (s.ports.get p).request = none := by simpa using hreq
      have hrx : (s.ports.get p).rx ≠ .broken := by
        intro hb
        simp [State.hears, hb] at hears
      cases hphase : s.phase with
      | off => simp [State.hears, hphase] at hears
      | starting cause =>
        exact .inr (.inr (.inr (.inr (takeRequest_starting kind tag act hphase hrx hnone))))
      | ready =>
        by_cases hright : hasRight kind (s.ports.get p).role = true
        · have ht : s.takes p kind := ⟨hphase, hrx, hnone, hright⟩
          exact .inr (.inr (.inl ⟨ht, takeRequest_taken tag act ht⟩))
        · exact .inr (.inr (.inr (.inl (takeRequest_noRight tag act hphase hrx hnone (by simpa using hright)))))
  · exact .inl (by simp [takeRequest, hears])

end Sys2Proof.Machine
end

