-- ==== Sys2Proof/Laws/Links.lean ====
section
/-!
SUPPORT. What a change of a PORT entry can do (R158): without a due change nothing, and otherwise each due change in
turn, which reads and writes nothing of the changes that still wait.
-/
namespace Sys2Proof.Machine

/-- The period that the bids give does not rest on anything else that a port holds (R18). -/
theorem wantedPeriod_modPort (s : State) (p : Port) (f : PortState → PortState) (h : ∀ ps, (f ps).bid = ps.bid) :
    (s.modPort p f).wantedPeriod = s.wantedPeriod := by
  have bids : (s.modPort p f).ports.toList.map PortState.bid = s.ports.toList.map PortState.bid := by
    rw [← Vector.toList_map, ← Vector.toList_map]
    congr 1
    apply table_ext
    intro q
    have get_map : ∀ v : Vector PortState 3, (Vector.map PortState.bid v).get q = (v.get q).bid := by
      simp [Vector.get_eq_getElem]
    rw [get_map, get_map]
    by_cases hq : q = p <;> simp [State.modPort, hq, h]
  have clamped : ∀ l : List PortState, l.filterMap (fun ps => ps.bid.map (clampBid s.settings.general)) =
      (l.map PortState.bid).filterMap (Option.map (clampBid s.settings.general)) := by
    intro l
    rw [List.filterMap_map]
    rfl
  unfold State.wantedPeriod
  simp only [State.modPort_settings, clamped, bids]

/-- A change of one port that keeps its bid commutes with working the period out again. -/
theorem recomputePeriod_modPort (s : State) (p : Port) (f : PortState → PortState) (h : ∀ ps, (f ps).bid = ps.bid) :
    (s.modPort p f).recomputePeriod = s.recomputePeriod.modPort p f := by
  unfold State.recomputePeriod
  rw [wantedPeriod_modPort s p f h]
  simp only [State.modPort_scanner]
  by_cases hp : s.wantedPeriod = s.scanner.period
  · simp only [hp, ↓reduceIte]
  · simp only [hp, ↓reduceIte]
    rfl

theorem freeReportOf_modPort (s : State) (p q : Port) (f : PortState → PortState) :
    (s.modPort p f).freeReportOf q = (s.freeReportOf q).modPort p f := by
  unfold State.freeReportOf
  simp only [State.modPort_report]
  split
  · split <;> rfl
  · rfl

/-- A change of a PORT entry takes effect in the same way whatever else waits on the port, and leaves that waiting. -/
theorem takeChange_changes (p : Port) (c : PortChange) (f : List PortChange → List PortChange) (s : State) :
    (s.modPort p fun ps => { ps with changes := f ps.changes }).takeChange p c =
      (s.takeChange p c).modPort p fun ps => { ps with changes := f ps.changes } := by
  have role : (s.modPort p fun ps => { ps with changes := f ps.changes }).changeRole p c.role =
      (s.changeRole p c.role).modPort p fun ps => { ps with changes := f ps.changes } := by
    unfold State.changeRole State.forgetParty
    simp only [State.modPort_ports, get_modAt, ↓reduceIte]
    split
    · rfl
    · simp only [modPort_modPort]
      rw [← recomputePeriod_modPort _ _ _ (by intro; rfl), ← freeReportOf_modPort, modPort_modPort]
      rfl
  unfold State.takeChange
  rw [role]
  unfold State.changeBaud
  simp only [State.modPort_ports, get_modAt, ↓reduceIte]
  split
  · rfl
  · simp only [modPort_modPort]
    rfl

/-- PORT_SETTINGS_EFFECT without a due change, or while the port sends a frame, does nothing. -/
theorem portSettingsEffect_none {p : Port} {s : State} (h : s.phase = .off ∨ (s.ports.get p).tx ≠ none ∨
    (s.ports.get p).changes.any PortChange.due = false) : portSettingsEffect p s = s := by
  unfold portSettingsEffect
  rw [if_neg]
  rintro ⟨hphase, htx, hdue⟩
  rcases h with h | h | h
  · exact hphase h
  · exact h htx
  · simp [h] at hdue

end Sys2Proof.Machine
end

