-- ==== Sys2Proof/Laws/Lookups.lean ====
section
/-!
SUPPORT. What the lookups find: a lot by its number (R88), the lowest free slot, an entry that is there when it is
changed, and the counts over a table.
-/
namespace Sys2Proof.Machine

theorem indexIn_of_lt {n : Nat} {b : Byte} (h : b.toNat < n) : indexIn n b = some ⟨b.toNat, h⟩ := by simp [indexIn, h]

theorem indexIn_eq_none {n : Nat} {b : Byte} : indexIn n b = none ↔ n ≤ b.toNat := by
  unfold indexIn
  split <;> simp <;> omega

/-- A lot that a number names stands in the slot, and has that number. -/
theorem lotNamed_some {s : State} {number : Word} {i : Slot} {l : Lot} (h : s.lotNamed number = some (i, l)) :
    s.lots.get i = some l ∧ l.number = number := by
  unfold State.lotNamed at h
  obtain ⟨j, _, hx⟩ := List.exists_of_findSome?_eq_some h
  cases hl : s.lots.get j with
  | none => simp [hl] at hx
  | some m =>
    simp only [hl, Option.ite_none_right_eq_some, Option.some.injEq, Prod.mk.injEq] at hx
    obtain ⟨h1, rfl, rfl⟩ := hx
    exact ⟨hl, h1⟩

/-- A number names no lot exactly when no slot holds it. -/
theorem lotNamed_none {s : State} {number : Word} :
    s.lotNamed number = none ↔ ∀ (i : Slot) (l : Lot), s.lots.get i = some l → l.number ≠ number := by
  unfold State.lotNamed
  rw [List.findSome?_eq_none_iff]
  constructor
  · intro h i l hl hn
    have := h i (List.mem_finRange i)
    simp [hl, hn] at this
  · intro h i _
    cases hl : s.lots.get i with
    | none => rfl
    | some m => simp [h i m hl]

/-- Where every slot is taken there is no free one. -/
theorem freeSlot_eq_none {s : State} : s.freeSlot = none ↔ ∀ i : Slot, s.lots.get i ≠ none := by
  simp [State.freeSlot, List.find?_eq_none, List.mem_finRange]

theorem modLot_some {s : State} {i : Slot} {l : Lot} (f : Lot → Lot) (h : s.lots.get i = some l) :
    s.modLot i f = { s with lots := setAt s.lots i (some (f l)) } := by
  simp only [State.modLot, modAt, h, Option.map_some]

theorem modHandoff_some {s : State} {j : HIndex} {x : Handoff} (f : Handoff → Handoff)
    (h : s.handoffs.get j = some x) :
    s.modHandoff j f = { s with handoffs := setAt s.handoffs j (some (f x)) } := by
  simp only [State.modHandoff, modAt, h, Option.map_some]

theorem modStop_some {s : State} {n : StopNo} {st : Stop} (f : Stop → Stop) (h : s.stops.get n = some st) :
    s.modStop n f = { s with stops := setAt s.stops n (some (f st)) } := by
  simp only [State.modStop, modAt, h, Option.map_some]

/-- Freeing a list of handoff entries empties these and keeps the others. -/
theorem get_freeHandoffs (js : List HIndex) (table : Vector (Option Handoff) 128) (j : HIndex) :
    (freeHandoffs table js).get j = if j ∈ js then none else table.get j := by
  unfold freeHandoffs
  induction js generalizing table with
  | nil => simp
  | cons x xs ih =>
    simp only [List.foldl_cons, ih]
    by_cases h1 : j ∈ xs <;> by_cases h2 : j = x <;> simp [h1, h2]

theorem countLots_eq (s : State) (f : Lot → Bool) : s.countLots f = s.lots.toList.countP fun o => o.any f := by
  unfold State.countLots
  congr 1
  funext o
  cases o <;> rfl

theorem countStops_eq (s : State) (f : Stop → Bool) : s.countStops f = s.stops.toList.countP fun o => o.any f := by
  unfold State.countStops
  congr 1
  funext o
  cases o <;> rfl

end Sys2Proof.Machine
end

