-- ==== Sys2Proof/Laws/Ops.lean ====
section
/-!
SUPPORT. What each shared operation of Machine/Ops.lean can do, said once, with the fields that it leaves alone.
-/
namespace Sys2Proof.Machine

variable (s : State)

/-! ### elapseMs -/

@[simp] theorem State.elapseMs_pending (n : Nat) : (s.elapseMs n).pending = s.pending := by
  unfold State.elapseMs; split <;> rfl
@[simp] theorem State.elapseMs_phase (n : Nat) : (s.elapseMs n).phase = s.phase := by
  unfold State.elapseMs; split <;> rfl
@[simp] theorem State.elapseMs_settings (n : Nat) : (s.elapseMs n).settings = s.settings := by
  unfold State.elapseMs; split <;> rfl
@[simp] theorem State.elapseMs_store (n : Nat) : (s.elapseMs n).store = s.store := by
  unfold State.elapseMs; split <;> rfl
@[simp] theorem State.elapseMs_storeWrite (n : Nat) : (s.elapseMs n).storeWrite = s.storeWrite := by
  unfold State.elapseMs; split <;> rfl
@[simp] theorem State.elapseMs_defaulted (n : Nat) : (s.elapseMs n).defaulted = s.defaulted := by
  unfold State.elapseMs; split <;> rfl
@[simp] theorem State.elapseMs_restartTaken (n : Nat) : (s.elapseMs n).restartTaken = s.restartTaken := by
  unfold State.elapseMs; split <;> rfl
@[simp] theorem State.elapseMs_restartDue (n : Nat) : (s.elapseMs n).restartDue = s.restartDue := by
  unfold State.elapseMs; split <;> rfl
@[simp] theorem State.elapseMs_marker (n : Nat) : (s.elapseMs n).marker = s.marker := by
  unfold State.elapseMs; split <;> rfl
@[simp] theorem State.elapseMs_seconds (n : Nat) : (s.elapseMs n).seconds = s.seconds := by
  unfold State.elapseMs; split <;> rfl
@[simp] theorem State.elapseMs_subMs (n : Nat) : (s.elapseMs n).subMs = s.subMs := by
  unfold State.elapseMs; split <;> rfl
@[simp] theorem State.elapseMs_clockUnset (n : Nat) : (s.elapseMs n).clockUnset = s.clockUnset := by
  unfold State.elapseMs; split <;> rfl
@[simp] theorem State.elapseMs_probes (n : Nat) : (s.elapseMs n).probes = s.probes := by
  unfold State.elapseMs; split <;> rfl
@[simp] theorem State.elapseMs_comps (n : Nat) : (s.elapseMs n).comps = s.comps := by
  unfold State.elapseMs; split <;> rfl
@[simp] theorem State.elapseMs_watches (n : Nat) : (s.elapseMs n).watches = s.watches := by
  unfold State.elapseMs; split <;> rfl
@[simp] theorem State.elapseMs_defrosts (n : Nat) : (s.elapseMs n).defrosts = s.defrosts := by
  unfold State.elapseMs; split <;> rfl
@[simp] theorem State.elapseMs_bases (n : Nat) : (s.elapseMs n).bases = s.bases := by
  unfold State.elapseMs; split <;> rfl
@[simp] theorem State.elapseMs_lots (n : Nat) : (s.elapseMs n).lots = s.lots := by
  unfold State.elapseMs; split <;> rfl
@[simp] theorem State.elapseMs_route (n : Nat) : (s.elapseMs n).route = s.route := by
  unfold State.elapseMs; split <;> rfl
@[simp] theorem State.elapseMs_stops (n : Nat) : (s.elapseMs n).stops = s.stops := by
  unfold State.elapseMs; split <;> rfl
@[simp] theorem State.elapseMs_handoffs (n : Nat) : (s.elapseMs n).handoffs = s.handoffs := by
  unfold State.elapseMs; split <;> rfl
@[simp] theorem State.elapseMs_claims (n : Nat) : (s.elapseMs n).claims = s.claims := by
  unfold State.elapseMs; split <;> rfl
@[simp] theorem State.elapseMs_nextClaim (n : Nat) : (s.elapseMs n).nextClaim = s.nextClaim := by
  unfold State.elapseMs; split <;> rfl
@[simp] theorem State.elapseMs_assessor (n : Nat) : (s.elapseMs n).assessor = s.assessor := by
  unfold State.elapseMs; split <;> rfl
@[simp] theorem State.elapseMs_report (n : Nat) : (s.elapseMs n).report = s.report := by
  unfold State.elapseMs; split <;> rfl
@[simp] theorem State.elapseMs_draws (n : Nat) : (s.elapseMs n).draws = s.draws := by
  unfold State.elapseMs; split <;> rfl

/-! ### secondTimers -/

@[simp] theorem State.secondTimers_pending : (s.secondTimers).pending = s.pending := by
  unfold State.secondTimers; split <;> rfl
@[simp] theorem State.secondTimers_phase : (s.secondTimers).phase = s.phase := by
  unfold State.secondTimers; split <;> rfl
@[simp] theorem State.secondTimers_settings : (s.secondTimers).settings = s.settings := by
  unfold State.secondTimers; split <;> rfl
@[simp] theorem State.secondTimers_store : (s.secondTimers).store = s.store := by
  unfold State.secondTimers; split <;> rfl
@[simp] theorem State.secondTimers_storeWrite : (s.secondTimers).storeWrite = s.storeWrite := by
  unfold State.secondTimers; split <;> rfl
@[simp] theorem State.secondTimers_defaulted : (s.secondTimers).defaulted = s.defaulted := by
  unfold State.secondTimers; split <;> rfl
@[simp] theorem State.secondTimers_restartTaken : (s.secondTimers).restartTaken = s.restartTaken := by
  unfold State.secondTimers; split <;> rfl
@[simp] theorem State.secondTimers_restartDue : (s.secondTimers).restartDue = s.restartDue := by
  unfold State.secondTimers; split <;> rfl
@[simp] theorem State.secondTimers_marker : (s.secondTimers).marker = s.marker := by
  unfold State.secondTimers; split <;> rfl
@[simp] theorem State.secondTimers_seconds : (s.secondTimers).seconds = s.seconds := by
  unfold State.secondTimers; split <;> rfl
@[simp] theorem State.secondTimers_subMs : (s.secondTimers).subMs = s.subMs := by
  unfold State.secondTimers; split <;> rfl
@[simp] theorem State.secondTimers_clockUnset : (s.secondTimers).clockUnset = s.clockUnset := by
  unfold State.secondTimers; split <;> rfl
@[simp] theorem State.secondTimers_probes : (s.secondTimers).probes = s.probes := by
  unfold State.secondTimers; split <;> rfl
@[simp] theorem State.secondTimers_comps : (s.secondTimers).comps = s.comps := by
  unfold State.secondTimers; split <;> rfl
@[simp] theorem State.secondTimers_watches : (s.secondTimers).watches = s.watches := by
  unfold State.secondTimers; split <;> rfl
@[simp] theorem State.secondTimers_bases : (s.secondTimers).bases = s.bases := by
  unfold State.secondTimers; split <;> rfl
@[simp] theorem State.secondTimers_lots : (s.secondTimers).lots = s.lots := by
  unfold State.secondTimers; split <;> rfl
@[simp] theorem State.secondTimers_route : (s.secondTimers).route = s.route := by
  unfold State.secondTimers; split <;> rfl
@[simp] theorem State.secondTimers_claims : (s.secondTimers).claims = s.claims := by
  unfold State.secondTimers; split <;> rfl
@[simp] theorem State.secondTimers_nextClaim : (s.secondTimers).nextClaim = s.nextClaim := by
  unfold State.secondTimers; split <;> rfl
@[simp] theorem State.secondTimers_assessor : (s.secondTimers).assessor = s.assessor := by
  unfold State.secondTimers; split <;> rfl
@[simp] theorem State.secondTimers_ports : (s.secondTimers).ports = s.ports := by
  unfold State.secondTimers; split <;> rfl
@[simp] theorem State.secondTimers_draws : (s.secondTimers).draws = s.draws := by
  unfold State.secondTimers; split <;> rfl

/-! ### recomputePeriod -/

@[simp] theorem State.recomputePeriod_pending : (s.recomputePeriod).pending = s.pending := by
  unfold State.recomputePeriod; simp only; split <;> rfl
@[simp] theorem State.recomputePeriod_phase : (s.recomputePeriod).phase = s.phase := by
  unfold State.recomputePeriod; simp only; split <;> rfl
@[simp] theorem State.recomputePeriod_settings : (s.recomputePeriod).settings = s.settings := by
  unfold State.recomputePeriod; simp only; split <;> rfl
@[simp] theorem State.recomputePeriod_store : (s.recomputePeriod).store = s.store := by
  unfold State.recomputePeriod; simp only; split <;> rfl
@[simp] theorem State.recomputePeriod_storeWrite : (s.recomputePeriod).storeWrite = s.storeWrite := by
  unfold State.recomputePeriod; simp only; split <;> rfl
@[simp] theorem State.recomputePeriod_defaulted : (s.recomputePeriod).defaulted = s.defaulted := by
  unfold State.recomputePeriod; simp only; split <;> rfl
@[simp] theorem State.recomputePeriod_restartTaken : (s.recomputePeriod).restartTaken = s.restartTaken := by
  unfold State.recomputePeriod; simp only; split <;> rfl
@[simp] theorem State.recomputePeriod_restartDue : (s.recomputePeriod).restartDue = s.restartDue := by
  unfold State.recomputePeriod; simp only; split <;> rfl
@[simp] theorem State.recomputePeriod_marker : (s.recomputePeriod).marker = s.marker := by
  unfold State.recomputePeriod; simp only; split <;> rfl
@[simp] theorem State.recomputePeriod_seconds : (s.recomputePeriod).seconds = s.seconds := by
  unfold State.recomputePeriod; simp only; split <;> rfl
@[simp] theorem State.recomputePeriod_subMs : (s.recomputePeriod).subMs = s.subMs := by
  unfold State.recomputePeriod; simp only; split <;> rfl
@[simp] theorem State.recomputePeriod_clockUnset : (s.recomputePeriod).clockUnset = s.clockUnset := by
  unfold State.recomputePeriod; simp only; split <;> rfl
@[simp] theorem State.recomputePeriod_probes : (s.recomputePeriod).probes = s.probes := by
  unfold State.recomputePeriod; simp only; split <;> rfl
@[simp] theorem State.recomputePeriod_comps : (s.recomputePeriod).comps = s.comps := by
  unfold State.recomputePeriod; simp only; split <;> rfl
@[simp] theorem State.recomputePeriod_watches : (s.recomputePeriod).watches = s.watches := by
  unfold State.recomputePeriod; simp only; split <;> rfl
@[simp] theorem State.recomputePeriod_doors : (s.recomputePeriod).doors = s.doors := by
  unfold State.recomputePeriod; simp only; split <;> rfl
@[simp] theorem State.recomputePeriod_defrosts : (s.recomputePeriod).defrosts = s.defrosts := by
  unfold State.recomputePeriod; simp only; split <;> rfl
@[simp] theorem State.recomputePeriod_bases : (s.recomputePeriod).bases = s.bases := by
  unfold State.recomputePeriod; simp only; split <;> rfl
@[simp] theorem State.recomputePeriod_lots : (s.recomputePeriod).lots = s.lots := by
  unfold State.recomputePeriod; simp only; split <;> rfl
@[simp] theorem State.recomputePeriod_route : (s.recomputePeriod).route = s.route := by
  unfold State.recomputePeriod; simp only; split <;> rfl
@[simp] theorem State.recomputePeriod_stops : (s.recomputePeriod).stops = s.stops := by
  unfold State.recomputePeriod; simp only; split <;> rfl
@[simp] theorem State.recomputePeriod_handoffs : (s.recomputePeriod).handoffs = s.handoffs := by
  unfold State.recomputePeriod; simp only; split <;> rfl
@[simp] theorem State.recomputePeriod_claims : (s.recomputePeriod).claims = s.claims := by
  unfold State.recomputePeriod; simp only; split <;> rfl
@[simp] theorem State.recomputePeriod_nextClaim : (s.recomputePeriod).nextClaim = s.nextClaim := by
  unfold State.recomputePeriod; simp only; split <;> rfl
@[simp] theorem State.recomputePeriod_assessor : (s.recomputePeriod).assessor = s.assessor := by
  unfold State.recomputePeriod; simp only; split <;> rfl
@[simp] theorem State.recomputePeriod_ports : (s.recomputePeriod).ports = s.ports := by
  unfold State.recomputePeriod; simp only; split <;> rfl
@[simp] theorem State.recomputePeriod_report : (s.recomputePeriod).report = s.report := by
  unfold State.recomputePeriod; simp only; split <;> rfl
@[simp] theorem State.recomputePeriod_draws : (s.recomputePeriod).draws = s.draws := by
  unfold State.recomputePeriod; simp only; split <;> rfl

/-! ### freeReportOf -/

@[simp] theorem State.freeReportOf_pending (p : Port) : (s.freeReportOf p).pending = s.pending := by
  unfold State.freeReportOf; split; · split <;> rfl
  · rfl
@[simp] theorem State.freeReportOf_phase (p : Port) : (s.freeReportOf p).phase = s.phase := by
  unfold State.freeReportOf; split; · split <;> rfl
  · rfl
@[simp] theorem State.freeReportOf_settings (p : Port) : (s.freeReportOf p).settings = s.settings := by
  unfold State.freeReportOf; split; · split <;> rfl
  · rfl
@[simp] theorem State.freeReportOf_store (p : Port) : (s.freeReportOf p).store = s.store := by
  unfold State.freeReportOf; split; · split <;> rfl
  · rfl
@[simp] theorem State.freeReportOf_storeWrite (p : Port) : (s.freeReportOf p).storeWrite = s.storeWrite := by
  unfold State.freeReportOf; split; · split <;> rfl
  · rfl
@[simp] theorem State.freeReportOf_defaulted (p : Port) : (s.freeReportOf p).defaulted = s.defaulted := by
  unfold State.freeReportOf; split; · split <;> rfl
  · rfl
@[simp] theorem State.freeReportOf_restartTaken (p : Port) : (s.freeReportOf p).restartTaken = s.restartTaken := by
  unfold State.freeReportOf; split; · split <;> rfl
  · rfl
@[simp] theorem State.freeReportOf_restartDue (p : Port) : (s.freeReportOf p).restartDue = s.restartDue := by
  unfold State.freeReportOf; split; · split <;> rfl
  · rfl
@[simp] theorem State.freeReportOf_marker (p : Port) : (s.freeReportOf p).marker = s.marker := by
  unfold State.freeReportOf; split; · split <;> rfl
  · rfl
@[simp] theorem State.freeReportOf_seconds (p : Port) : (s.freeReportOf p).seconds = s.seconds := by
  unfold State.freeReportOf; split; · split <;> rfl
  · rfl
@[simp] theorem State.freeReportOf_subMs (p : Port) : (s.freeReportOf p).subMs = s.subMs := by
  unfold State.freeReportOf; split; · split <;> rfl
  · rfl
@[simp] theorem State.freeReportOf_clockUnset (p : Port) : (s.freeReportOf p).clockUnset = s.clockUnset := by
  unfold State.freeReportOf; split; · split <;> rfl
  · rfl
@[simp] theorem State.freeReportOf_scanner (p : Port) : (s.freeReportOf p).scanner = s.scanner := by
  unfold State.freeReportOf; split; · split <;> rfl
  · rfl
@[simp] theorem State.freeReportOf_probes (p : Port) : (s.freeReportOf p).probes = s.probes := by
  unfold State.freeReportOf; split; · split <;> rfl
  · rfl
@[simp] theorem State.freeReportOf_comps (p : Port) : (s.freeReportOf p).comps = s.comps := by
  unfold State.freeReportOf; split; · split <;> rfl
  · rfl
@[simp] theorem State.freeReportOf_watches (p : Port) : (s.freeReportOf p).watches = s.watches := by
  unfold State.freeReportOf; split; · split <;> rfl
  · rfl
@[simp] theorem State.freeReportOf_doors (p : Port) : (s.freeReportOf p).doors = s.doors := by
  unfold State.freeReportOf; split; · split <;> rfl
  · rfl
@[simp] theorem State.freeReportOf_defrosts (p : Port) : (s.freeReportOf p).defrosts = s.defrosts := by
  unfold State.freeReportOf; split; · split <;> rfl
  · rfl
@[simp] theorem State.freeReportOf_bases (p : Port) : (s.freeReportOf p).bases = s.bases := by
  unfold State.freeReportOf; split; · split <;> rfl
  · rfl
@[simp] theorem State.freeReportOf_lots (p : Port) : (s.freeReportOf p).lots = s.lots := by
  unfold State.freeReportOf; split; · split <;> rfl
  · rfl
@[simp] theorem State.freeReportOf_route (p : Port) : (s.freeReportOf p).route = s.route := by
  unfold State.freeReportOf; split; · split <;> rfl
  · rfl
@[simp] theorem State.freeReportOf_stops (p : Port) : (s.freeReportOf p).stops = s.stops := by
  unfold State.freeReportOf; split; · split <;> rfl
  · rfl
@[simp] theorem State.freeReportOf_handoffs (p : Port) : (s.freeReportOf p).handoffs = s.handoffs := by
  unfold State.freeReportOf; split; · split <;> rfl
  · rfl
@[simp] theorem State.freeReportOf_claims (p : Port) : (s.freeReportOf p).claims = s.claims := by
  unfold State.freeReportOf; split; · split <;> rfl
  · rfl
@[simp] theorem State.freeReportOf_nextClaim (p : Port) : (s.freeReportOf p).nextClaim = s.nextClaim := by
  unfold State.freeReportOf; split; · split <;> rfl
  · rfl
@[simp] theorem State.freeReportOf_assessor (p : Port) : (s.freeReportOf p).assessor = s.assessor := by
  unfold State.freeReportOf; split; · split <;> rfl
  · rfl
@[simp] theorem State.freeReportOf_ports (p : Port) : (s.freeReportOf p).ports = s.ports := by
  unfold State.freeReportOf; split; · split <;> rfl
  · rfl
@[simp] theorem State.freeReportOf_draws (p : Port) : (s.freeReportOf p).draws = s.draws := by
  unfold State.freeReportOf; split; · split <;> rfl
  · rfl

/-! ### beginResponse -/

@[simp] theorem State.beginResponse_pending (p : Port) : (s.beginResponse p).pending = s.pending := by
  unfold State.beginResponse; simp only; split <;> rfl
@[simp] theorem State.beginResponse_phase (p : Port) : (s.beginResponse p).phase = s.phase := by
  unfold State.beginResponse; simp only; split <;> rfl
@[simp] theorem State.beginResponse_settings (p : Port) : (s.beginResponse p).settings = s.settings := by
  unfold State.beginResponse; simp only; split <;> rfl
@[simp] theorem State.beginResponse_store (p : Port) : (s.beginResponse p).store = s.store := by
  unfold State.beginResponse; simp only; split <;> rfl
@[simp] theorem State.beginResponse_storeWrite (p : Port) : (s.beginResponse p).storeWrite = s.storeWrite := by
  unfold State.beginResponse; simp only; split <;> rfl
@[simp] theorem State.beginResponse_defaulted (p : Port) : (s.beginResponse p).defaulted = s.defaulted := by
  unfold State.beginResponse; simp only; split <;> rfl
@[simp] theorem State.beginResponse_restartTaken (p : Port) : (s.beginResponse p).restartTaken = s.restartTaken := by
  unfold State.beginResponse; simp only; split <;> rfl
@[simp] theorem State.beginResponse_restartDue (p : Port) : (s.beginResponse p).restartDue = s.restartDue := by
  unfold State.beginResponse; simp only; split <;> rfl
@[simp] theorem State.beginResponse_marker (p : Port) : (s.beginResponse p).marker = s.marker := by
  unfold State.beginResponse; simp only; split <;> rfl
@[simp] theorem State.beginResponse_seconds (p : Port) : (s.beginResponse p).seconds = s.seconds := by
  unfold State.beginResponse; simp only; split <;> rfl
@[simp] theorem State.beginResponse_subMs (p : Port) : (s.beginResponse p).subMs = s.subMs := by
  unfold State.beginResponse; simp only; split <;> rfl
@[simp] theorem State.beginResponse_clockUnset (p : Port) : (s.beginResponse p).clockUnset = s.clockUnset := by
  unfold State.beginResponse; simp only; split <;> rfl
@[simp] theorem State.beginResponse_scanner (p : Port) : (s.beginResponse p).scanner = s.scanner := by
  unfold State.beginResponse; simp only; split <;> rfl
@[simp] theorem State.beginResponse_probes (p : Port) : (s.beginResponse p).probes = s.probes := by
  unfold State.beginResponse; simp only; split <;> rfl
@[simp] theorem State.beginResponse_comps (p : Port) : (s.beginResponse p).comps = s.comps := by
  unfold State.beginResponse; simp only; split <;> rfl
@[simp] theorem State.beginResponse_watches (p : Port) : (s.beginResponse p).watches = s.watches := by
  unfold State.beginResponse; simp only; split <;> rfl
@[simp] theorem State.beginResponse_doors (p : Port) : (s.beginResponse p).doors = s.doors := by
  unfold State.beginResponse; simp only; split <;> rfl
@[simp] theorem State.beginResponse_defrosts (p : Port) : (s.beginResponse p).defrosts = s.defrosts := by
  unfold State.beginResponse; simp only; split <;> rfl
@[simp] theorem State.beginResponse_bases (p : Port) : (s.beginResponse p).bases = s.bases := by
  unfold State.beginResponse; simp only; split <;> rfl
@[simp] theorem State.beginResponse_lots (p : Port) : (s.beginResponse p).lots = s.lots := by
  unfold State.beginResponse; simp only; split <;> rfl
@[simp] theorem State.beginResponse_route (p : Port) : (s.beginResponse p).route = s.route := by
  unfold State.beginResponse; simp only; split <;> rfl
@[simp] theorem State.beginResponse_stops (p : Port) : (s.beginResponse p).stops = s.stops := by
  unfold State.beginResponse; simp only; split <;> rfl
@[simp] theorem State.beginResponse_handoffs (p : Port) : (s.beginResponse p).handoffs = s.handoffs := by
  unfold State.beginResponse; simp only; split <;> rfl
@[simp] theorem State.beginResponse_claims (p : Port) : (s.beginResponse p).claims = s.claims := by
  unfold State.beginResponse; simp only; split <;> rfl
@[simp] theorem State.beginResponse_nextClaim (p : Port) : (s.beginResponse p).nextClaim = s.nextClaim := by
  unfold State.beginResponse; simp only; split <;> rfl
@[simp] theorem State.beginResponse_assessor (p : Port) : (s.beginResponse p).assessor = s.assessor := by
  unfold State.beginResponse; simp only; split <;> rfl
@[simp] theorem State.beginResponse_report (p : Port) : (s.beginResponse p).report = s.report := by
  unfold State.beginResponse; simp only; split <;> rfl
@[simp] theorem State.beginResponse_draws (p : Port) : (s.beginResponse p).draws = s.draws := by
  unfold State.beginResponse; simp only; split <;> rfl

/-! ### The scan period in force (R18) -/

/-- The period that the bids and the settings give does not look at the scanner. -/
theorem wantedPeriod_congr {s t : State} (hs : t.settings = s.settings) (hp : t.ports = s.ports) :
    t.wantedPeriod = s.wantedPeriod := by
  simp [State.wantedPeriod, hs, hp]

/-- After the period has been worked out again it is the wanted one, and a due time that lies later moves. -/
theorem recomputePeriod_scanner (s : State) :
    s.recomputePeriod.scanner = { s.scanner with
      period := s.wantedPeriod,
      nextDue := if s.wantedPeriod = s.scanner.period then s.scanner.nextDue
        else min s.scanner.nextDue (s.scanner.elapsed + s.wantedPeriod) } := by
  unfold State.recomputePeriod
  by_cases h : s.wantedPeriod = s.scanner.period
  · simp [h]
  · simp [h]

/-! ### The report slot (R172) -/

/-- The slot is free afterwards if port `p` held it, and is left alone otherwise. -/
theorem freeReportOf_report (s : State) (p : Port) :
    (s.freeReportOf p).report = s.report.filter fun r => r.holder != p := by
  unfold State.freeReportOf
  cases h : s.report with
  | none => simp [h]
  | some r => by_cases hp : r.holder = p <;> simp [h, hp, Option.filter]

/-! ### The movements of cartons (R90) -/

/-- The cartons that a lot accounts for. -/
def Quantities.total (x : Quantities) : Nat := x.onBoard + x.offered + x.delivered + x.returned + x.writtenOff

/-- A movement keeps the cartons loaded and the cartons accounted for. -/
def Quantities.conserves (f : Quantities → Quantities) : Prop := ∀ x, (f x).loaded = x.loaded ∧ (f x).total = x.total

theorem writeOff_conserves (n : Nat) : Quantities.conserves (Quantities.writeOff n) := by
  intro x
  simp only [Quantities.writeOff, Quantities.total, true_and]
  omega

theorem offer_conserves (n : Nat) : Quantities.conserves (Quantities.offer n) := by
  intro x
  simp only [Quantities.offer, Quantities.total, true_and]
  omega

theorem answer_conserves (n a : Nat) : Quantities.conserves (Quantities.answer n a) := by
  intro x
  simp only [Quantities.answer, Quantities.total, true_and]
  omega

theorem takeBack_conserves (n : Nat) : Quantities.conserves (Quantities.takeBack n) := answer_conserves n 0

theorem bringBack_conserves : Quantities.conserves Quantities.bringBack := by
  intro x
  simp only [Quantities.bringBack, Quantities.total, true_and]
  omega

/-- Where the cartons asked for are on board, a write-off moves exactly those (R95). -/
theorem writeOff_enough {n : Nat} {x : Quantities} (h : n ≤ x.onBoard) :
    x.writeOff n = { x with onBoard := x.onBoard - n, writtenOff := x.writtenOff + n } := by
  simp [Quantities.writeOff, h]

/-- Where the cartons asked for are on board, an offer moves exactly those (R126). -/
theorem offer_enough {n : Nat} {x : Quantities} (h : n ≤ x.onBoard) :
    x.offer n = { x with onBoard := x.onBoard - n, offered := x.offered + n } := by
  simp [Quantities.offer, h]

/-- Where the cartons are on offer, `a` of them are delivered and the rest come back (R131). -/
theorem answer_enough {n a : Nat} {x : Quantities} (h : n ≤ x.offered) (ha : a ≤ n) :
    x.answer n a =
      { x with offered := x.offered - n, delivered := x.delivered + a, onBoard := x.onBoard + (n - a) } := by
  simp [Quantities.answer, h, ha]

/-! ### The notice queues (R175) -/

/-- Everything that offering a notice to a port can do. -/
theorem enqueue_cases (n : Notice) (ps : PortState) :
    ps.enqueue n = ps ∨
    (ps.urgent.length < 8 ∧ ps.enqueue n = { ps with urgent := ps.urgent ++ [n] }) ∨
    ps.enqueue n = { ps with droppedUrgent := true } ∨
    (ps.routine.length < 16 ∧ ps.enqueue n = { ps with routine := ps.routine ++ [n] }) ∨
    (16 ≤ ps.routine.length ∧ ps.enqueue n =
      { ps with routine := ps.routine.tail ++ [n], droppedRoutine := satAdd 16 ps.droppedRoutine 1 }) := by
  unfold PortState.enqueue
  split_ifs with h1 h2 h3 h4
  · exact .inl rfl
  · exact .inr (.inl ⟨h3, rfl⟩)
  · exact .inr (.inr (.inl rfl))
  · exact .inr (.inr (.inr (.inl ⟨h4, rfl⟩)))
  · exact .inr (.inr (.inr (.inr ⟨by omega, rfl⟩)))

/-- Offering a notice changes the queues, the dropped counts and nothing else of a port. -/
theorem enqueue_frame (n : Notice) (ps : PortState) :
    ps.enqueue n = { ps with
      urgent := (ps.enqueue n).urgent, routine := (ps.enqueue n).routine,
      droppedRoutine := (ps.enqueue n).droppedRoutine, droppedUrgent := (ps.enqueue n).droppedUrgent } := by
  rcases enqueue_cases n ps with h | ⟨_, h⟩ | h | ⟨_, h⟩ | ⟨_, h⟩ <;> rw [h]

/-- The queues stay within their capacity. -/
theorem enqueue_capacity (n : Notice) (ps : PortState) (hu : ps.urgent.length ≤ 8) (hr : ps.routine.length ≤ 16) :
    (ps.enqueue n).urgent.length ≤ 8 ∧ (ps.enqueue n).routine.length ≤ 16 := by
  rcases enqueue_cases n ps with h | ⟨hl, h⟩ | h | ⟨hl, h⟩ | ⟨hl, h⟩ <;> rw [h] <;>
    refine ⟨?_, ?_⟩ <;> (try simp) <;> omega

end Sys2Proof.Machine
end

