-- ==== Sys2Proof/Laws/PerInstr.lean ====
section
/-!
SUPPORT. What holds of every command as syntax, proved constructor by constructor: a request is carried by a KIND that
the K46 defines (R183), and that KIND plus 0x80 fits a byte (R162). A command that is no request has no frame.
-/
namespace Sys2Proof.Laws.RequestKind

/-- The KIND that carries a request is a defined request code below 0x80. -/
def Statement (c : Instr) : Prop :=
  ∀ (p : Port) (kind tag : Byte) (body : List Byte), encodeRequest c = some (p, kind, tag, body) →
    definedKind kind = true ∧ kind.toNat < 0x80

theorem portStatus (p : Port) (tag : Byte) : Statement (.portStatus p tag) := by
  rintro p kind tag body ⟨⟩; decide

theorem countersClear (p : Port) (tag : Byte) : Statement (.countersClear p tag) := by
  rintro p kind tag body ⟨⟩; decide

theorem noticeEnable (p : Port) (tag : Byte) (value : Byte) : Statement (.noticeEnable p tag value) := by
  rintro p kind tag body ⟨⟩; decide

theorem scanBid (p : Port) (tag : Byte) (seconds : Half) : Statement (.scanBid p tag seconds) := by
  rintro p kind tag body ⟨⟩; decide

theorem clockGet (p : Port) (tag : Byte) : Statement (.clockGet p tag) := by
  rintro p kind tag body ⟨⟩; decide

theorem clockSet (p : Port) (tag : Byte) (seconds : Word) : Statement (.clockSet p tag seconds) := by
  rintro p kind tag body ⟨⟩; decide

theorem settingsGet (p : Port) (tag : Byte) (group : Byte) (index : Byte) :
    Statement (.settingsGet p tag group index) := by
  rintro p kind tag body ⟨⟩; decide

theorem settingsPut (p : Port) (tag : Byte) (group : Byte) (index : Byte) (entry : List Byte) :
    Statement (.settingsPut p tag group index entry) := by
  rintro p kind tag body ⟨⟩; decide

theorem storeWriteCompletion : Statement (.storeWriteCompletion) := by
  rintro p kind tag body ⟨⟩

theorem restart (p : Port) (tag : Byte) : Statement (.restart p tag) := by
  rintro p kind tag body ⟨⟩; decide

theorem restartStart : Statement (.restartStart) := by
  rintro p kind tag body ⟨⟩

theorem powerUp : Statement (.powerUp) := by
  rintro p kind tag body ⟨⟩

theorem rstnReset : Statement (.rstnReset) := by
  rintro p kind tag body ⟨⟩

theorem mainPowerLoss : Statement (.mainPowerLoss) := by
  rintro p kind tag body ⟨⟩

theorem startReady : Statement (.startReady) := by
  rintro p kind tag body ⟨⟩

theorem compartmentStatus (p : Port) (tag : Byte) (compartment : Byte) :
    Statement (.compartmentStatus p tag compartment) := by
  rintro p kind tag body ⟨⟩; decide

theorem probeStatus (p : Port) (tag : Byte) (probe : Byte) : Statement (.probeStatus p tag probe) := by
  rintro p kind tag body ⟨⟩; decide

theorem probeClear (p : Port) (tag : Byte) (probe : Byte) : Statement (.probeClear p tag probe) := by
  rintro p kind tag body ⟨⟩; decide

theorem watchRearm (p : Port) (tag : Byte) (compartment : Byte) : Statement (.watchRearm p tag compartment) := by
  rintro p kind tag body ⟨⟩; decide

theorem doorStatus (p : Port) (tag : Byte) (door : Byte) : Statement (.doorStatus p tag door) := by
  rintro p kind tag body ⟨⟩; decide

theorem doorRearm (p : Port) (tag : Byte) (door : Byte) : Statement (.doorRearm p tag door) := by
  rintro p kind tag body ⟨⟩; decide

theorem defrostStatus (p : Port) (tag : Byte) (compartment : Byte) :
    Statement (.defrostStatus p tag compartment) := by
  rintro p kind tag body ⟨⟩; decide

theorem defrostAsk (p : Port) (tag : Byte) (compartment : Byte) : Statement (.defrostAsk p tag compartment) := by
  rintro p kind tag body ⟨⟩; decide

theorem defrostEnd (p : Port) (tag : Byte) (compartment : Byte) : Statement (.defrostEnd p tag compartment) := by
  rintro p kind tag body ⟨⟩; decide

theorem refillExpiry (c : Comp) : Statement (.refillExpiry c) := by
  rintro p kind tag body ⟨⟩

theorem lotLoad (p : Port) (tag : Byte) (lot : Word) (cls : Byte) (compartment : Byte) (quantity : Half) :
    Statement (.lotLoad p tag lot cls compartment quantity) := by
  rintro p kind tag body ⟨⟩; decide

theorem lotMove (p : Port) (tag : Byte) (lot : Word) (compartment : Byte) :
    Statement (.lotMove p tag lot compartment) := by
  rintro p kind tag body ⟨⟩; decide

theorem lotWriteOff (p : Port) (tag : Byte) (lot : Word) (quantity : Half) :
    Statement (.lotWriteOff p tag lot quantity) := by
  rintro p kind tag body ⟨⟩; decide

theorem lotRetire (p : Port) (tag : Byte) (lot : Word) (force : Byte) : Statement (.lotRetire p tag lot force) := by
  rintro p kind tag body ⟨⟩; decide

theorem lotStatus (p : Port) (tag : Byte) (lot : Word) (part : Byte) : Statement (.lotStatus p tag lot part) := by
  rintro p kind tag body ⟨⟩; decide

theorem lotList (p : Port) (tag : Byte) (first : Byte) : Statement (.lotList p tag first) := by
  rintro p kind tag body ⟨⟩; decide

theorem reportLot (p : Port) (tag : Byte) (lot : Word) (page : Byte) : Statement (.reportLot p tag lot page) := by
  rintro p kind tag body ⟨⟩; decide

theorem compositionCompletion : Statement (.compositionCompletion) := by
  rintro p kind tag body ⟨⟩

theorem discardTimerExpiry : Statement (.discardTimerExpiry) := by
  rintro p kind tag body ⟨⟩

theorem routeBegin (p : Port) (tag : Byte) (number : Half) : Statement (.routeBegin p tag number) := by
  rintro p kind tag body ⟨⟩; decide

theorem stopLoad (p : Port) (tag : Byte) (stop : Byte) (consignee mask : Word) (budget limit : Half)
    (planned : List (Word × Half)) :
    Statement (.stopLoad p tag stop consignee mask budget limit planned) := by
  rintro p kind tag body ⟨⟩; decide

theorem dispatch (p : Port) (tag : Byte) : Statement (.dispatch p tag) := by
  rintro p kind tag body ⟨⟩; decide

theorem vanReturn (p : Port) (tag : Byte) : Statement (.vanReturn p tag) := by
  rintro p kind tag body ⟨⟩; decide

theorem stopOpen (p : Port) (tag : Byte) (stop : Byte) : Statement (.stopOpen p tag stop) := by
  rintro p kind tag body ⟨⟩; decide

theorem stopClose (p : Port) (tag : Byte) : Statement (.stopClose p tag) := by
  rintro p kind tag body ⟨⟩; decide

theorem stopStatus (p : Port) (tag : Byte) (stop : Byte) : Statement (.stopStatus p tag stop) := by
  rintro p kind tag body ⟨⟩; decide

theorem stopTimerExpiry : Statement (.stopTimerExpiry) := by
  rintro p kind tag body ⟨⟩

theorem handoffOffer (p : Port) (tag : Byte) (lot : Word) (quantity : Half) :
    Statement (.handoffOffer p tag lot quantity) := by
  rintro p kind tag body ⟨⟩; decide

theorem handoffAccept (p : Port) (tag : Byte) (index : Byte) (code : Word) (accepted : Half) (condition : Byte) :
    Statement (.handoffAccept p tag index code accepted condition) := by
  rintro p kind tag body ⟨⟩; decide

theorem handoffCopied (p : Port) (tag : Byte) (index : Byte) (value : Half) :
    Statement (.handoffCopied p tag index value) := by
  rintro p kind tag body ⟨⟩; decide

theorem handoffWithdraw (p : Port) (tag : Byte) (index : Byte) : Statement (.handoffWithdraw p tag index) := by
  rintro p kind tag body ⟨⟩; decide

theorem handoffStatus (p : Port) (tag : Byte) (index : Byte) : Statement (.handoffStatus p tag index) := by
  rintro p kind tag body ⟨⟩; decide

theorem ackTimerExpiry (h : HIndex) : Statement (.ackTimerExpiry h) := by
  rintro p kind tag body ⟨⟩

theorem claimLodge (p : Port) (tag : Byte) (index : Byte) (code : Word) (quantity : Half) :
    Statement (.claimLodge p tag index code quantity) := by
  rintro p kind tag body ⟨⟩; decide

theorem claimWithdraw (p : Port) (tag : Byte) (number : Half) : Statement (.claimWithdraw p tag number) := by
  rintro p kind tag body ⟨⟩; decide

theorem claimFetch (p : Port) (tag : Byte) (number : Half) : Statement (.claimFetch p tag number) := by
  rintro p kind tag body ⟨⟩; decide

theorem claimClear (p : Port) (tag : Byte) (number : Half) : Statement (.claimClear p tag number) := by
  rintro p kind tag body ⟨⟩; decide

theorem claimList (p : Port) (tag : Byte) : Statement (.claimList p tag) := by
  rintro p kind tag body ⟨⟩; decide

theorem assessmentCompletion : Statement (.assessmentCompletion) := by
  rintro p kind tag body ⟨⟩

theorem scanStart : Statement (.scanStart) := by
  rintro p kind tag body ⟨⟩

theorem probeReadCompletion (probe : Probe) (answer : ProbeAnswer) :
    Statement (.probeReadCompletion probe answer) := by
  rintro p kind tag body ⟨⟩

theorem probeInvalidAnswer (probe : Probe) : Statement (.probeInvalidAnswer probe) := by
  rintro p kind tag body ⟨⟩

theorem readTimeout (probe : Probe) : Statement (.readTimeout probe) := by
  rintro p kind tag body ⟨⟩

theorem scanCompletion (watchFirst : BitVec 4) : Statement (.scanCompletion watchFirst) := by
  rintro p kind tag body ⟨⟩

theorem doorInputLevel (door : Comp) (high : Bool) : Statement (.doorInputLevel door high) := by
  rintro p kind tag body ⟨⟩

theorem acceptedChange (door : Comp) : Statement (.acceptedChange door) := by
  rintro p kind tag body ⟨⟩

theorem heldLimitReached (door : Comp) : Statement (.heldLimitReached door) := by
  rintro p kind tag body ⟨⟩

theorem stopDoorSecond (door : Comp) : Statement (.stopDoorSecond door) := by
  rintro p kind tag body ⟨⟩

theorem byteReceived (p : Port) (value : Byte) (framingError : Bool) :
    Statement (.byteReceived p value framingError) := by
  rintro p kind tag body ⟨⟩

theorem interByteTimeout (p : Port) : Statement (.interByteTimeout p) := by
  rintro p kind tag body ⟨⟩

theorem frameDiscarded (p : Port) : Statement (.frameDiscarded p) := by
  rintro p kind tag body ⟨⟩

theorem undefinedRequest (p : Port) (kind : Byte) (tag : Byte) : Statement (.undefinedRequest p kind tag) := by
  rintro p kind tag body ⟨⟩

theorem responseSent (p : Port) : Statement (.responseSent p) := by
  rintro p kind tag body ⟨⟩

theorem portSettingsEffect (p : Port) : Statement (.portSettingsEffect p) := by
  rintro p kind tag body ⟨⟩

theorem noticeSend (p : Port) : Statement (.noticeSend p) := by
  rintro p kind tag body ⟨⟩

theorem portBreak (p : Port) : Statement (.portBreak p) := by
  rintro p kind tag body ⟨⟩

theorem breakEnd (p : Port) : Statement (.breakEnd p) := by
  rintro p kind tag body ⟨⟩

theorem secondsCountAdvance : Statement (.secondsCountAdvance) := by
  rintro p kind tag body ⟨⟩

theorem backupSupplyLoss : Statement (.backupSupplyLoss) := by
  rintro p kind tag body ⟨⟩

theorem noticeFrameEnd (p : Port) : Statement (.noticeFrameEnd p) := by
  rintro p kind tag body ⟨⟩

end Sys2Proof.Laws.RequestKind
end

