-- ==== Sys2Proof/Laws/Resolve.lean ====
section
/-!
SUPPORT. What resolving the handoffs that still wait (R114, R139), charging the gaps (R83), draining the stop
accumulators (R47) and the start of the assessor (R147) do, each said once.
-/
namespace Sys2Proof.Machine

/-- A handoff as a close or a start leaves it: OFFERED lapses, PROOF_READY settles with C as it was. -/
def Handoff.resolved (now : Time) (h : Handoff) : Handoff :=
  match h.state with
  | .offered => { h with state := .lapsed, endTime := some now, ack := none }
  | .proofReady => { h with state := .settled, settleTime := some now, ack := none }
  | _ => h

/-- A lot with `n` of its cartons on offer back on board. -/
def Lot.backOnBoard (n : Nat) (l : Lot) : Lot := { l with qty := l.qty.backOnBoard n }

theorem takeBack_eq (n : Nat) (l : Lot) : l.move (Quantities.takeBack n) = l.backOnBoard n := by
  simp [Lot.move, Lot.backOnBoard, Quantities.takeBack, Quantities.answer, Quantities.backOnBoard]

theorem backOnBoard_zero (l : Lot) : l.backOnBoard 0 = l := by simp [Lot.backOnBoard, Quantities.backOnBoard]

theorem backOnBoard_add (a b : Nat) (l : Lot) : (l.backOnBoard a).backOnBoard b = l.backOnBoard (a + b) := by
  simp only [Lot.backOnBoard, Quantities.backOnBoard]
  congr 2 <;> omega

/-- Cartons that come back on board leave a lot accounting, or not, as it was. -/
theorem backOnBoard_accounting (n : Nat) (l : Lot) : (l.backOnBoard n).accounting = l.accounting := by
  have h : 0 < (l.backOnBoard n).qty.onBoard + (l.backOnBoard n).qty.offered ↔ 0 < l.qty.onBoard + l.qty.offered := by
    simp only [Lot.backOnBoard, Quantities.backOnBoard]
    omega
  unfold Lot.accounting
  rw [decide_eq_decide.2 h]
  rfl

/-- The cartons of slot `i` that handoff `j` holds on offer. -/
def State.onOffer (s : State) (i : Slot) (j : HIndex) : Nat :=
  match s.handoffs.get j with
  | some h => if h.slot = i ∧ h.state = .offered then h.q else 0
  | none => 0

theorem cartonsOffered_eq (s : State) (js : List HIndex) (i : Slot) :
    s.cartonsOffered js i = ((List.finRange 128).map fun j => if j ∈ js then s.onOffer i j else 0).sum := by
  unfold State.cartonsOffered State.onOffer
  congr 2
  funext j
  cases s.handoffs.get j with
  | none => simp
  | some h => by_cases hj : j ∈ js <;> simp [hj]

theorem sum_one {n : Nat} (j : Fin n) (x : Nat) :
    ((List.finRange n).map fun k => if k = j then x else 0).sum = x := by
  rw [← List.ofFn_eq_map, List.sum_ofFn, Finset.sum_ite_eq' Finset.univ j]
  simp

/-- The cartons on offer of one handoff and of a list that is resolved after it. -/
theorem cartonsOffered_cons (s t : State) (j : HIndex) (js : List HIndex) (i : Slot)
    (h0 : t.onOffer i j = 0) (h1 : ∀ k, k ≠ j → t.onOffer i k = s.onOffer i k) :
    s.cartonsOffered (j :: js) i = s.onOffer i j + t.cartonsOffered js i := by
  rw [cartonsOffered_eq, cartonsOffered_eq, ← sum_one j (s.onOffer i j), ← List.sum_map_add]
  congr 2
  funext k
  by_cases hk : k = j
  · subst hk
    simp [h0]
  · by_cases hm : k ∈ js <;> simp [hk, hm, h1]

theorem resolved_resolved (now : Time) (h : Handoff) : (h.resolved now).resolved now = h.resolved now := by
  unfold Handoff.resolved; cases hs : h.state <;> simp [hs]

/-- State `t` is `s` with the handoffs of a list resolved. -/
structure Resolved (s t : State) (js : List HIndex) : Prop where
  frame : t = { s with handoffs := t.handoffs, lots := t.lots }
  hand : ∀ j, t.handoffs.get j = (s.handoffs.get j).map fun h => if j ∈ js then h.resolved s.seconds else h
  lots : ∀ i, t.lots.get i = (s.lots.get i).map (Lot.backOnBoard (s.cartonsOffered js i))

theorem cartonsOffered_one (s : State) (j : HIndex) (i : Slot) : s.cartonsOffered [j] i = s.onOffer i j := by
  rw [cartonsOffered_eq, ← sum_one j (s.onOffer i j)]
  congr 2
  funext k
  by_cases hk : k = j <;> simp [hk]

theorem map_backOnBoard_zero (o : Option Lot) : o.map (Lot.backOnBoard 0) = o := by
  cases o <;> simp [backOnBoard_zero]

/-- A handoff that is not OFFERED and is as resolved. -/
theorem resolved_same (s : State) (j : HIndex)
    (h0 : ∀ h, s.handoffs.get j = some h → h.resolved s.seconds = h ∧ h.state ≠ .offered) : Resolved s s [j] := by
  refine ⟨rfl, ?_, fun i => ?_⟩
  · intro k
    by_cases hk : k = j
    · subst hk
      cases hh : s.handoffs.get k with
      | none => rfl
      | some h => simp [(h0 _ hh).1]
    · simp [hk]
  · rw [cartonsOffered_one, State.onOffer]
    cases hh : s.handoffs.get j with
    | none => simp [map_backOnBoard_zero]
    | some h => simp [(h0 _ hh).2, map_backOnBoard_zero]

/-- One handoff resolved. -/
theorem resolve_resolved (s : State) (j : HIndex) : Resolved s (s.resolve j) [j] := by
  cases hh : s.handoffs.get j with
  | none =>
    rw [show s.resolve j = s by simp [State.resolve, hh]]
    exact resolved_same s j (by simp [hh])
  | some h =>
    cases hs : h.state
    case offered =>
      rw [show s.resolve j = s.endOffer j h .lapsed by simp [State.resolve, hh, hs]]
      refine ⟨rfl, ?_, ?_⟩
      · intro k
        by_cases hk : k = j
        · subst hk
          simp [hh, State.endOffer, State.modHandoff, State.modLot, Handoff.resolved, hs]
        · simp [hk, State.endOffer, State.modHandoff, State.modLot]
      · intro i
        rw [cartonsOffered_one, State.onOffer]
        by_cases hk : i = h.slot
        · subst hk
          simp only [State.endOffer, State.modHandoff, State.modLot, get_modAt, if_true, hh, hs, and_self]
          cases s.lots.get h.slot <;> simp [takeBack_eq]
        · have hk' : ¬ h.slot = i := fun e => hk e.symm
          simp [hk, hk', State.endOffer, State.modHandoff, State.modLot, hh, map_backOnBoard_zero]
    case proofReady =>
      rw [show s.resolve j = s.settle j false by simp [State.resolve, hh, hs]]
      refine ⟨rfl, ?_, fun i => ?_⟩
      · intro k
        by_cases hk : k = j
        · subst hk
          simp [hh, State.settle, State.modHandoff, Handoff.resolved, hs]
        · simp [hk, State.settle, State.modHandoff]
      · simp [cartonsOffered_one, State.onOffer, hh, hs, State.settle, State.modHandoff, map_backOnBoard_zero]
    all_goals
      rw [show s.resolve j = s by simp [State.resolve, hh, hs]]
      exact resolved_same s j (by simp [hh]; simp [Handoff.resolved, hs])

theorem resolved_not_offered (now : Time) (h : Handoff) : (h.resolved now).state ≠ .offered := by
  unfold Handoff.resolved
  cases hs : h.state <;> simp [hs]

/-- A list of handoffs resolved one after another. -/
theorem resolve_list (js : List HIndex) (s : State) : Resolved s (js.foldl State.resolve s) js := by
  induction js generalizing s with
  | nil => exact ⟨rfl, by simp, fun i => by simp [cartonsOffered_eq, map_backOnBoard_zero]⟩
  | cons j js ih =>
    have a := resolve_resolved s j
    have b := ih (s.resolve j)
    have hsec : (s.resolve j).seconds = s.seconds := by rw [a.frame]
    simp only [List.foldl_cons]
    refine ⟨?_, ?_, ?_⟩
    · rw [b.frame, a.frame]
    · intro k
      rw [b.hand, a.hand, hsec, Option.map_map]
      congr 1
      funext h
      by_cases h1 : k = j <;> by_cases h2 : k ∈ js <;> simp [h1, h2]
      · subst h1
        simp [h2, resolved_resolved]
      · subst h1
        simp [h2]
    · intro i
      have split : s.cartonsOffered (j :: js) i = s.onOffer i j + (s.resolve j).cartonsOffered js i := by
        apply cartonsOffered_cons
        · simp only [State.onOffer, a.hand, List.mem_singleton, if_true]
          cases s.handoffs.get j with
          | none => rfl
          | some h => simp [resolved_not_offered]
        · intro k hk
          simp [State.onOffer, a.hand, hk]
      rw [b.lots, a.lots, cartonsOffered_one, split, Option.map_map]
      exact congrFun (congrArg Option.map (funext fun l => backOnBoard_add _ _ l)) _

/-- With less than a second in every stop accumulator there is nothing to drain. -/
theorem drainStop_none (n : StopNo) (s : State) (h : ∀ d : Comp, (s.doors.get d).stopAcc < 1000) :
    s.drainStop n = s := by
  unfold State.drainStop
  suffices ∀ ds : List Comp,
      ds.foldl (fun t d => Nat.iterate (State.addDoorSecond n d) ((t.doors.get d).stopAcc / 1000) t) s = s from this _
  intro ds
  induction ds with
  | nil => rfl
  | cons d ds ih =>
    have : (s.doors.get d).stopAcc / 1000 = 0 := by have := h d; omega
    simp only [List.foldl_cons, this, Nat.iterate]
    exact ih

/-- A door second takes 1000 from its own accumulator alone. -/
theorem addDoorSecond_stopAcc (n : StopNo) (s : State) (d e : Comp) :
    ((s.addDoorSecond n d).doors.get e).stopAcc =
      if e = d then (s.doors.get e).stopAcc - 1000 else (s.doors.get e).stopAcc := by
  have doors : (s.addDoorSecond n d).doors = modAt s.doors d fun x => { x with stopAcc := x.stopAcc - 1000 } := by
    simp only [State.addDoorSecond]
    split
    · split <;> rfl
    · rfl
  rw [doors, get_modAt]
  split <;> rfl

/-- Draining counts the first door second that is due, and then what is left. -/
theorem drainStop_first (n : StopNo) (s : State) (d : Comp) (due : 1000 ≤ (s.doors.get d).stopAcc)
    (below : ∀ e : Comp, e < d → (s.doors.get e).stopAcc < 1000) :
    s.drainStop n = (s.addDoorSecond n d).drainStop n := by
  unfold State.drainStop
  suffices ∀ ds : List Comp, ds.Pairwise (· < ·) → d ∈ ds →
      ds.foldl (fun t d => Nat.iterate (State.addDoorSecond n d) ((t.doors.get d).stopAcc / 1000) t) s =
      ds.foldl (fun t d => Nat.iterate (State.addDoorSecond n d) ((t.doors.get d).stopAcc / 1000) t)
        (s.addDoorSecond n d) from this _ (by decide) (List.mem_finRange d)
  intro ds
  induction ds with
  | nil => intro _ h; simp at h
  | cons e es ih =>
    intro sorted mem
    obtain ⟨first, rest⟩ := List.pairwise_cons.1 sorted
    simp only [List.foldl_cons, addDoorSecond_stopAcc]
    by_cases he : e = d
    · subst he
      have count : (s.doors.get e).stopAcc / 1000 = ((s.doors.get e).stopAcc - 1000) / 1000 + 1 := by omega
      simp only [if_true, count, Function.iterate_succ_apply]
    · have mem' : d ∈ es := by simpa [Ne.symm he] using mem
      have none_due : (s.doors.get e).stopAcc / 1000 = 0 := by have := below e (first d mem'); omega
      simp only [he, if_false, none_due, Function.iterate_zero, id]
      exact ih rest mem'

/-- What the gaps do to one lot, by the step base of its compartment. -/
def gapCharged (resumed : Bool) (bases : Vector StepBase 4) (now : Time) (l : Lot) : Lot :=
  { l with
    acct := match (bases.get l.comp).base with
      | some b =>
        if l.accounting = true ∧ l.joined = true then
          { l.acct with
            unverified := min (l.acct.unverified + span b now) 4294967295
            gaps := if resumed then min (l.acct.gaps + 1) 255 else l.acct.gaps }
        else l.acct
      | none => l.acct }

/-- State `t` is `s` with the gaps of a list of compartments charged. -/
structure GapsCharged (resumed : Bool) (s t : State) (cs : List Comp) : Prop where
  frame : t = { s with lots := t.lots, bases := t.bases }
  bases : ∀ c, t.bases.get c = if c ∈ cs then
    { s.bases.get c with base := (s.bases.get c).base.map fun _ => s.seconds } else s.bases.get c
  lots : ∀ i, t.lots.get i = (s.lots.get i).map fun l =>
    if l.comp ∈ cs then gapCharged resumed s.bases s.seconds l else l

/-- The gap of one compartment. -/
theorem chargeGap_charged (resumed : Bool) (s : State) (c : Comp) :
    GapsCharged resumed s (s.chargeGap resumed c) [c] := by
  cases hb : (s.bases.get c).base with
  | none =>
    have : s.chargeGap resumed c = s := by simp [State.chargeGap, hb]
    rw [this]
    refine ⟨rfl, ?_, ?_⟩
    · intro d
      by_cases hd : d = c
      · subst hd
        rw [if_pos (List.mem_singleton.2 rfl), hb, Option.map_none, ← hb]
      · simp [hd]
    · intro i
      cases s.lots.get i with
      | none => rfl
      | some l =>
        by_cases hl : l.comp = c
        · subst hl
          simp [gapCharged, hb]
        · simp [hl]
  | some b =>
    simp only [State.chargeGap, hb]
    refine ⟨rfl, ?_, ?_⟩
    · intro d
      by_cases hd : d = c
      · subst hd
        simp [State.modBase, State.mapLots, hb]
      · simp [State.modBase, State.mapLots, hd]
    · intro i
      simp only [State.modBase, State.mapLots, get_mapV]
      cases s.lots.get i with
      | none => rfl
      | some l =>
        by_cases hl : l.comp = c
        · subst hl
          by_cases hz : l.accounting = true ∧ l.joined = true
          · simp [gapCharged, hb, Lot.chargedIn, Lot.accountingIn, satAdd, hz]
          · simp [gapCharged, hb, Lot.chargedIn, Lot.accountingIn, satAdd, hz]
        · simp [hl, Lot.chargedIn, Lot.accountingIn]

/-- The gaps of a list of compartments, charged one after another. -/
theorem chargeGap_list (resumed : Bool) (cs : List Comp) (s : State) (hn : cs.Nodup) :
    GapsCharged resumed s (cs.foldl (State.chargeGap resumed) s) cs := by
  induction cs generalizing s with
  | nil => exact ⟨rfl, by simp, by simp⟩
  | cons c cs ih =>
    obtain ⟨hc, hn⟩ := List.nodup_cons.1 hn
    have a := chargeGap_charged resumed s c
    have b := ih (s.chargeGap resumed c) hn
    have hsec : (s.chargeGap resumed c).seconds = s.seconds := by rw [a.frame]
    simp only [List.foldl_cons]
    refine ⟨?_, ?_, ?_⟩
    · rw [b.frame, a.frame]
    · intro d
      rw [b.bases, a.bases, hsec]
      by_cases h1 : d = c
      · subst h1
        simp [hc]
      · by_cases h2 : d ∈ cs <;> simp [h1, h2]
    · intro i
      rw [b.lots, a.lots, hsec, Option.map_map]
      congr 1
      funext l
      simp only [Function.comp]
      by_cases h1 : l.comp = c
      · simp [h1, gapCharged, hc]
      · by_cases h2 : l.comp ∈ cs
        · simp [h1, h2, gapCharged, a.bases]
        · simp [h1, h2]

/-- The start of the assessor touches the claims and the assessor alone, keeps every claim number, and changes no claim
that is not LODGED. -/
theorem startAssessor_frame (s : State) :
    s.startAssessor = { s with claims := s.startAssessor.claims, assessor := s.startAssessor.assessor } ∧
    s.startAssessor.claims.map Claim.number = s.claims.map Claim.number ∧
    ((s.claims.map Claim.number).Nodup → ∀ c ∈ s.claims, c.state ≠ .lodged → c ∈ s.startAssessor.claims) := by
  unfold State.startAssessor
  split
  · rename_i c ha hf
    split
    · refine ⟨rfl, ?_, ?_⟩
      · simp only [State.modClaim, List.map_map]
        congr 1
        funext x
        simp only [Function.comp]
        split <;> rfl
      · intro hn x hx hs
        simp [State.modClaim]
        refine ⟨x, hx, ?_⟩
        have hm := List.mem_of_find?_eq_some hf
        have hl := List.find?_some hf
        by_cases hnum : x.number = c.number
        · have : x = c := List.inj_on_of_nodup_map hn hx hm hnum
          subst this
          simp at hl
          exact absurd hl hs
        · simp [hnum]
    · exact ⟨rfl, rfl, fun _ c h _ => h⟩
  · exact ⟨rfl, rfl, fun _ c h _ => h⟩

end Sys2Proof.Machine
end

