-- ==== Sys2Proof/Laws/Watch.lean ====
section
/-!
SUPPORT. The Excursion Watch: what a watch that R25 allows holds, and that taking a reading keeps the law of the
watches.
-/
namespace Sys2Proof.Machine

theorem modLast_append (f : Excursion → Excursion) (l : List Excursion) (e : Excursion) :
    modLast f (l ++ [e]) = l ++ [f e] := by
  induction l with
  | nil => rfl
  | cons x xs ih => cases xs <;> simp_all [modLast]

/-- A lawful watch that is NORMAL or SUSPECT has no open record. -/
theorem Watch.lawful.closed {w : Watch} (h : w.lawful) (calm : ¬ (w.state = .excursion ∨ w.state = .recovering)) :
    ∀ e ∈ w.list, e.finish ≠ none :=
  fun e he hf => calm (h.2.2.2 ⟨e, he, hf⟩)

/-- A lawful watch that is EXCURSION or RECOVERING has one open record, its newest. -/
theorem Watch.lawful.opened {w : Watch} (h : w.lawful) (busy : w.state = .excursion ∨ w.state = .recovering) :
    ∃ l e, w.list = l ++ [e] ∧ e.finish = none ∧ ∀ x ∈ l, x.finish ≠ none := by
  obtain ⟨e, he, hf⟩ := h.2.2.1 busy
  have hne : w.list ≠ [] := List.ne_nil_of_mem he
  have hsplit := List.dropLast_append_getLast hne
  refine ⟨w.list.dropLast, w.list.getLast hne, hsplit.symm, ?_, h.2.1⟩
  rw [← hsplit, List.mem_append, List.mem_singleton] at he
  rcases he with he | rfl
  · exact absurd hf (h.2.1 e he)
  · exact hf

/-- A calm watch with every record closed is lawful. -/
theorem Watch.lawful_of_closed {w : Watch} (hits : w.hits ≤ 255)
    (calm : ¬ (w.state = .excursion ∨ w.state = .recovering)) (closed : ∀ e ∈ w.list, e.finish ≠ none) : w.lawful :=
  ⟨hits, fun e he => closed e (List.mem_of_mem_dropLast he), fun h => absurd h calm,
    fun ⟨e, he, hf⟩ => absurd hf (closed e he)⟩

/-- A watch that is EXCURSION or RECOVERING and whose newest record alone is open is lawful. -/
theorem Watch.lawful_of_opened {w : Watch} {l : List Excursion} {e : Excursion} (hits : w.hits ≤ 255)
    (busy : w.state = .excursion ∨ w.state = .recovering) (list : w.list = l ++ [e]) (hopen : e.finish = none)
    (closed : ∀ x ∈ l, x.finish ≠ none) : w.lawful := by
  refine ⟨hits, ?_, fun _ => ⟨e, by simp [list], hopen⟩, fun _ => busy⟩
  simpa [list] using closed

/-- A change of one watch that leaves it lawful keeps the law. -/
theorem State.watchLaw_modAt {s t : State} (h : s.watchLaw) {c : Comp} {f : Watch → Watch}
    (ht : t.watches = modAt s.watches c f) (hf : (f (s.watches.get c)).lawful) : t.watchLaw := by
  intro d
  rw [ht, get_modAt]
  split
  · next hd => subst hd; exact hf
  · exact h d

theorem State.watchLaw_modWatch {s : State} (h : s.watchLaw) (c : Comp) (f : Watch → Watch)
    (hf : (f (s.watches.get c)).lawful) : (s.modWatch c f).watchLaw := State.watchLaw_modAt h rfl hf

theorem satAdd8_le (n k : Nat) : satAdd 8 n k ≤ 255 := by simp [satAdd]

variable {s : State}

theorem State.openExcursion_watchLaw (h : s.watchLaw) (r : Reading) (side : Side) (t : Int) {hits : Nat}
    (hh : hits ≤ 255)
    (calm : ¬ ((s.watches.get r.comp).state = .excursion ∨ (s.watches.get r.comp).state = .recovering)) :
    (s.openExcursion r side t hits).watchLaw := by
  have closed := (h r.comp).closed calm
  let cfg := s.settings.comps.get r.comp
  have watches : (s.openExcursion r side t hits).watches = modAt s.watches r.comp fun w => { w with
      state := .excursion, hits := hits, clears := 0
      armed := if cfg.mode = .firstOnly then false else w.armed
      list := addExcursion w.list ⟨r.time, side, t, hits, none, (s.watches.get r.comp).announces cfg⟩ } := by
    simp only [State.openExcursion]
    split <;> rfl
  refine State.watchLaw_modAt h watches ?_
  refine Watch.lawful_of_opened hh (.inl rfl) rfl rfl fun x hx => ?_
  split at hx
  · exact closed x hx
  · exact closed x (List.mem_of_mem_tail hx)

theorem State.closeExcursion_watchLaw (h : s.watchLaw) (r : Reading)
    (busy : (s.watches.get r.comp).state = .excursion ∨ (s.watches.get r.comp).state = .recovering) :
    (s.closeExcursion r).watchLaw := by
  obtain ⟨l, e, list, -, closed⟩ := (h r.comp).opened busy
  have watches : (s.closeExcursion r).watches = modAt s.watches r.comp fun w => { w with
      state := .normal, hits := 0, clears := 0
      list := modLast (fun e => { e with finish := some r.time }) w.list } := by
    simp only [State.closeExcursion]
    split
    · split <;> rfl
    · rfl
  refine State.watchLaw_modAt h watches ?_
  refine Watch.lawful_of_closed (by simp) (by simp) fun x hx => ?_
  rw [list, modLast_append, List.mem_append, List.mem_singleton] at hx
  rcases hx with hx | rfl
  · exact closed x hx
  · simp

theorem State.watchHit_watchLaw (h : s.watchLaw) (r : Reading) (side : Side) (t : Int) :
    (s.watchHit r side t).watchLaw := by
  by_cases busy : (s.watches.get r.comp).state = .excursion ∨ (s.watches.get r.comp).state = .recovering
  · obtain ⟨l, e, list, hopen, closed⟩ := (h r.comp).opened busy
    have key : (s.modWatch r.comp fun w => { w with
        state := .excursion, clears := 0, hits := satAdd 8 w.hits 1
        list := modLast (Excursion.hit side t) w.list }).watchLaw := by
      refine State.watchLaw_modWatch h _ _ (Watch.lawful_of_opened (l := l) (e := e.hit side t) (satAdd8_le _ _)
        (.inl rfl) ?_ ?_ closed)
      · simp only [list, modLast_append]
      · simpa [Excursion.hit] using hopen
    unfold State.watchHit
    rcases busy with hs | hs <;> simpa only [hs] using key
  · have closed := (h r.comp).closed busy
    have calm (hits : Nat) (hh : hits ≤ 255) : (if (s.settings.comps.get r.comp).trigger ≤ hits
        then s.openExcursion r side t hits
        else s.modWatch r.comp fun w => { w with state := .suspect, hits := hits }).watchLaw := by
      split
      · exact State.openExcursion_watchLaw h r side t hh busy
      · exact State.watchLaw_modWatch h _ _ (Watch.lawful_of_closed hh (by simp) closed)
    unfold State.watchHit
    cases hs : (s.watches.get r.comp).state <;> simp only [hs] at busy ⊢
    · exact calm _ (by simp)
    · exact calm _ (by simp [satAdd])
    · simp at busy
    · simp at busy

theorem State.watchInBand_watchLaw (h : s.watchLaw) (r : Reading) : (s.watchInBand r).watchLaw := by
  have hits := (h r.comp).1
  by_cases busy : (s.watches.get r.comp).state = .excursion ∨ (s.watches.get r.comp).state = .recovering
  · obtain ⟨l, e, list, hopen, closed⟩ := (h r.comp).opened busy
    have key (clears : Nat) : (if (s.settings.comps.get r.comp).clear ≤ clears then s.closeExcursion r
        else s.modWatch r.comp fun w => { w with state := .recovering, clears := clears }).watchLaw := by
      split
      · exact State.closeExcursion_watchLaw h r busy
      · exact State.watchLaw_modWatch h _ _ (Watch.lawful_of_opened hits (.inr rfl) list hopen closed)
    unfold State.watchInBand
    rcases busy with hs | hs <;> simpa only [hs] using key _
  · have closed := (h r.comp).closed busy
    unfold State.watchInBand
    cases hs : (s.watches.get r.comp).state <;> simp only [hs] at busy ⊢
    · exact h
    · exact State.watchLaw_modWatch h _ _ (Watch.lawful_of_closed (by simp) (by simp) closed)
    · simp at busy
    · simp at busy

/-- Taking a reading keeps the law of the watches. -/
theorem State.watchReading_watchLaw (h : s.watchLaw) (r : Reading) : (s.watchReading r).watchLaw := by
  unfold State.watchReading
  split
  · exact h
  split
  · exact h
  split
  · exact State.watchInBand_watchLaw h r
  · exact State.watchHit_watchLaw h r _ _
  · split
    · exact State.watchLaw_modWatch h _ _ (h r.comp)
    · exact State.watchHit_watchLaw h r _ _

end Sys2Proof.Machine
end

