-- ==== Sys2Proof/Tests/Slice0.lean ====
section
/-!
SUPPORT. Tests, each on a small state and one command or operation: what no link can carry, values that the spec's
worked cases give (each test names its section), and after them one witness or more for the hypotheses of every
statement that has hypotheses.
-/
namespace Sys2Proof.Tests

open Sys2Proof.Machine

/-! ### What no link can carry -/

theorem test_entry_of_239_bytes_is_ill_formed :
    (Instr.settingsPut 2 0 0 0 (List.replicate 239 0)).wellFormed = false := by decide +kernel
theorem test_38_planned_entries_are_ill_formed :
    (Instr.stopLoad 2 0 0 0 0 0 0 (List.replicate 38 (1, 1))).wellFormed = false := by decide
theorem test_defined_kind_is_no_undefined_request : (Instr.undefinedRequest 0 0x28 0).wellFormed = false := by decide
theorem test_no_word_spells_a_command : decodeTableWord 32 0x28 = none := by decide

/-! ### Formats (chapter 12): words written out from R182 and R183 -/

/-- R182 names the check value of "123456789". -/
theorem test_crc16 : crc16 [0x31, 0x32, 0x33, 0x34, 0x35, 0x36, 0x37, 0x38, 0x39] = 0x29B1 := by decide +kernel
theorem test_decode_port_status : decodeRequest 0 0x01 7 [] = .request (.portStatus 0 7) := by decide
theorem test_decode_clock_set : decodeRequest 2 0x06 7 [0, 0, 1, 2] = .request (.clockSet 2 7 258) := by decide
theorem test_decode_defrost_ask : decodeRequest 1 0x17 9 [3] = .request (.defrostAsk 1 9 3) := by decide
theorem test_decode_lot_load : decodeRequest 2 0x20 1 [0, 0, 0x15, 0x83, 2, 1, 0, 40] =
    .request (.lotLoad 2 1 5507 2 1 40) := by decide
theorem test_decode_stop_load : decodeRequest 2 0x29 1
    [6, 0x00, 0x52, 0xA1, 0x00, 0xFF, 0xFF, 0xFF, 0xF0, 0, 90, 2, 0x58, 1, 0, 0, 0x1C, 0x85, 0, 12] =
    .request (.stopLoad 2 1 6 0x0052A100 0xFFFFFFF0 90 600 [(7301, 12)]) := by decide
theorem test_stop_load_count_disagrees : decodeRequest 2 0x29 1
    [6, 0x00, 0x52, 0xA1, 0x00, 0xFF, 0xFF, 0xFF, 0xF0, 0, 90, 2, 0x58, 2, 0, 0, 0x1C, 0x85, 0, 12] = .badLength := by
  decide
theorem test_decode_handoff_accept : decodeRequest 0 0x31 4 [40, 0x00, 0x52, 0xA1, 0x0B, 0, 10, 1] =
    .request (.handoffAccept 0 4 40 0x0052A10B 10 1) := by decide
theorem test_decode_claim_lodge : decodeRequest 2 0x38 4 [57, 0, 0, 0, 9, 0, 3] =
    .request (.claimLodge 2 4 57 9 3) := by decide
theorem test_short_body : decodeRequest 2 0x38 4 [57, 0, 0, 0, 9, 0] = .badLength := by decide
theorem test_undefined_kind : decodeRequest 2 0x0A 4 [] = .undefined := by decide
/-- R182: START, LEN, KIND, TAG, BODY, CHECK. -/
theorem test_request_frame :
    requestFrame 0x01 7 [] = [0xA5, 2, 0x01, 7] ++ halfBytes (crc16 [2, 0x01, 7]) := by decide +kernel

/-! ### Probe validation (section 1.6) -/

def cfg128 : ProbeCfg := { enabled := true, comp := 0, role := .product, trim := 0, jump := 128 }

theorem test_jump : validate cfg128 (some (-288)) none (.raw (-100)) =
    (.jump, some (-100), some (-288), some (-100)) := by decide
theorem test_confirmed : validate cfg128 (some (-288)) (some (-100)) (.raw (-96)) =
    (.confirmed, some (-96), some (-96), none) := by decide
theorem test_back_to_accepted : validate cfg128 (some (-248)) (some (-60)) (.raw (-280)) =
    (.ok, some (-280), some (-280), none) := by decide
theorem test_silent : validate cfg128 (some (-288)) (some (-100)) .silent =
    (.silent, none, some (-288), none) := by decide

/-! ### A lot's steps (section 5.6) -/

def class0 : ClassCfg := Settings.factory.classes.get 0
def step7030 : Account := Account.fresh.charge class0 .liveProduct (some (-264)) 30 12 false
def step7060 : Account := step7030.charge class0 .liveProduct (some (-150)) 30 0 false
def step7090 : Account := step7060.charge class0 .liveProduct (some (-300)) 30 0 false

theorem test_door_seconds : doorSeconds 70400 58000 30 = (12, 70000) := by decide
theorem test_step_in_first_band : step7030 = { Account.fresh with
    dose := 1008, doorSecs := 12, peak := some (-264) } := by decide
theorem test_step_in_third_band : step7060 = { Account.fresh with
    dose := 17568, doorSecs := 12, peak := some (-150), warm := true } := by decide
theorem test_step_below_limit : step7090 = { Account.fresh with
    dose := 17568, doorSecs := 12, peak := some (-150), shocks := 1 } := by decide
theorem test_waived_step : step7030.charge class0 .liveProduct (some (-150)) 30 0 true = { Account.fresh with
    dose := 1008, waived := 16560, doorSecs := 12, peak := some (-150), warm := true } := by decide
theorem test_degree_minutes : dm 17568 = 18 ∧ dm 16560 = 17 := by decide

/-! ### A defrost (section 4.8) -/

def granted (pool : Nat) : Allowance :=
  { pool := pool, refill := 0, state := .active, record := some ⟨6005, 150, 0, 0, 0, none⟩, lastAsk := none }

theorem test_step_is_waived : (granted 30).decide true 30 0 6180 =
    (true, { granted 0 with record := some ⟨6005, 150, 30, 1, 0, none⟩ }) := by decide
theorem test_door_time_voids_the_waiver : (granted 90).decide true 30 4 6090 =
    (false, { granted 90 with record := some ⟨6005, 150, 0, 0, 1, none⟩ }) := by decide
theorem test_short_pool_overruns : (granted 0).decide true 30 0 6210 =
    (false, { granted 0 with state := .overrun, record := some ⟨6005, 150, 0, 0, 1, some 6210⟩ }) := by decide

/-! ### Codes, windows and proofs (sections 7.4, 6.8, 8.11) -/

theorem test_code_matches : codeMatches 0x00A41237 0x00A41230 0xFFFFFF00 = true := by decide
theorem test_code_does_not_match : codeMatches 0x0052B10B 0x0052A100 0xFFFFFFF0 = false := by decide

/-! ### A verdict (section 9.5) -/

def evidence (dose shocks unverified dispatchDose dispatchShocks dispatchUnverified : Nat) (e : Option EReason) :
    Assessment :=
  { claim := some 1, start := 0, discard := false, a := true, e := e, c := true, accepted := 10
    snap := { Account.fresh with dose := dose, shocks := shocks, unverified := unverified }
    dispatchSnap := { Account.fresh with
      dose := dispatchDose, shocks := dispatchShocks, unverified := dispatchUnverified }
    doseLimit := 240, shockLimit := 3, unverifiedLimit := 600 }

theorem test_verdict_carrier : (evidence 288000 1 120 48000 0 0 none).verdict = (.upheldCarrier, none) := by decide
theorem test_figures : (evidence 288000 1 120 48000 0 0 none).figures = ⟨300, 50, 250, 1, 120⟩ := by decide
theorem test_verdict_depot : (evidence 288000 1 120 240000 0 0 none).verdict = (.upheldDepot, none) := by decide
theorem test_verdict_depot_by_shocks : (evidence 288000 1 120 48000 3 0 none).verdict = (.upheldDepot, none) := by
  decide
theorem test_verdict_record : (evidence 288000 1 720 48000 0 0 none).verdict = (.referred, some .record) := by decide
theorem test_verdict_unverified_difference :
    (evidence 288000 1 720 48000 0 300 none).verdict = (.upheldCarrier, none) := by decide
theorem test_verdict_rejected : (evidence 229440 2 120 48000 0 0 none).verdict = (.rejected, none) := by decide
theorem test_verdict_copy : (evidence 288000 1 120 48000 0 0 (some .copyMismatch)).verdict =
    (.referred, some .copy) := by decide

/-! ### States for single steps -/

/-- The state that a command leaves. -/
def after (c : Instr) (s : State) : State :=
  match exec c s with
  | .next t => t
  | .fault _ => s
  | .refused _ => s

/-- READY, as after a full start: L0 is CAB, L1 is COOLING, L2 is DOCK. -/
def ready : State := { State.reset with phase := .ready, marker := true }

/-- A lot of 40 cartons on the van, dispatched with dose 4800 (section 8.11). -/
def onVan : Lot := { Lot.load 7301 0 0 40 with
  state := .onBoard, joined := true, dispatched := some ⟨49000, 15, { Account.fresh with dose := 4800 }⟩ }
def stop6 : Stop := { Stop.load 0x0052A100 0xFFFFFFF0 90 600 [(7301, 12)] with
  state := .opened, openTime := some 50000, timer := some 600 }
/-- Route 15 DISPATCHED with stop 6 OPEN and lot 7301 in slot 3 (section 8.11). -/
def round : State := { ready with
  seconds := 50020, clockUnset := false
  route := { number := some 15, state := .dispatched, beginTime := some 40000, dispatchTime := some 49000,
             returnTime := none, openStop := some 6 }
  lots := setAt ready.lots 3 (some onVan), stops := setAt ready.stops 6 (some stop6) }
/-- The same round between two stops. -/
def between : State := { round with
  route := { round.route with openStop := none }, stops := setAt ready.stops 6 (some { stop6 with state := .planned }) }

/-- Twelve cartons on offer. -/
def offer : Handoff := newHandoff round 3 onVan 6 stop6 12
def offeredLot : Lot := { onVan.move (Quantities.offer 12) with handoffs := [40] }
def offered : State := { round with
  handoffs := setAt round.handoffs 40 (some offer), lots := setAt round.lots 3 (some offeredLot)
  stops := setAt round.stops 6 (some { stop6 with offers := [40] }) }

/-- The shop took 10 of the 12 and copied the proof; harm was done on the van. -/
def settled : Handoff := { offer with
  state := .settled, accepted := 10, refused := 2, a := true, c := true, ack := none, settleTime := some 50095
  snap := some { Account.fresh with dose := 288000, shocks := 1, unverified := 120 } }
def backLot : Lot := { onVan with
  qty := { loaded := 40, onBoard := 0, offered := 0, delivered := 10, returned := 30, writtenOff := 0 }
  state := .returned, handoffs := [40] }
/-- The van is back at the depot. -/
def back : State := { round with
  seconds := 60000, route := { round.route with state := .returned, openStop := none }
  handoffs := setAt round.handoffs 40 (some settled), lots := setAt round.lots 3 (some backLot)
  stops := setAt round.stops 6 (some { stop6 with state := .closed, offers := [40], accepted := [10] }) }

def claim1 : Claim :=
  { number := 1, handoff := 40, lot := 7301, claimant := 0x0052A10B, quantity := 3, lodgeTime := 60000
    state := .lodged, verdict := none, reason := none, figures := none, decideTime := none, endTime := none
    fetched := false }

/-- A depot with lot 5507 loaded, doors CLOSED and the clock set. -/
def loading : State := { ready with
  clockUnset := false, route := { Route.fresh with number := some 12, state := .loading }
  doors := mapV (fun d => { d with state := .closed }) ready.doors
  lots := setAt ready.lots 9 (some (Lot.load 5507 0 0 40)) }

/-- The period of section 1.7: the cab bids 5 s, and its bid is the floor of 10. -/
theorem test_scan_bid : (after (.scanBid 0 0 5) ready).scanner.period = 10 := by decide
/-- Withdrawing the only bid gives the default period again. -/
theorem test_scan_bid_withdrawn :
    let s := { ready with ports := modAt ready.ports 1 fun ps => { ps with bid := some 60 } }
    (after (.scanBid 1 0 0) s).scanner.period = 30 := by decide
/-- The first START_READY after reset completes a full start (R180). -/
theorem test_start_ready : (after .startReady State.reset).phase = .ready ∧ (after .startReady State.reset).marker := by
  decide
/-- Section 7.10, R110: DISPATCH makes a STOWED lot ON_BOARD. -/
theorem test_dispatch : ((after (.dispatch 2 0) loading).lots.get 9).map Lot.state = some .onBoard := by decide
/-- Section 8.11 at 50020: 28 on board, 12 on offer. -/
theorem test_handoff_offer : ((after (.handoffOffer 0 0 7301 12) round).lots.get 3).map
    (fun l => (l.qty.onBoard, l.qty.offered)) = some (28, 12) := by decide
/-- Section 8.11 at 50060: 30 on board, none on offer, 10 delivered. -/
theorem test_handoff_accept : ((after (.handoffAccept 0 0 40 0x0052A10B 10 1) offered).lots.get 3).map
    (fun l => (l.qty.onBoard, l.qty.offered, l.qty.delivered)) = some (30, 0, 10) := by decide
/-- Section 8.11 at 50070: a code that does not match leaves the handoff OFFERED with E set. -/
theorem test_handoff_not_recognised : ((after (.handoffAccept 0 0 40 0x0052B10B 6 0) offered).handoffs.get 40).map
    (fun h => (h.state, h.e)) = some (.offered, some .idMismatch) := by decide
/-- Section 8.11 at 50150: an offer still open at STOP_CLOSE lapses. -/
theorem test_stop_close : ((after (.stopClose 0 0) offered).handoffs.get 40).map Handoff.state = some .lapsed := by
  decide
/-- Section 6.8: 27 on board and 3 written off after LOT_WRITE_OFF of 3 from 30. -/
theorem test_write_off : ((onVan.move fun q => { q with onBoard := 30, delivered := 10 }).move
    (Quantities.writeOff 3)).qty = ⟨40, 27, 0, 10, 0, 3⟩ := by decide
/-- Section 6.8: a settled handoff's window of 48 hours runs to 22050 + 172800 and no longer. -/
theorem test_claim_window : Handoff.windowRuns class0 194850 { settled with settleTime := some 22050 } = true ∧
    Handoff.windowRuns class0 194851 { settled with settleTime := some 22050 } = false := by decide
/-- Section 8.11: the proof record carries DM 21 and carrier DM 16. -/
theorem test_proof_degree_minutes :
    let l := { offeredLot with acct := { Account.fresh with dose := 20160 } }
    let proof := makeProof 40 offer l 0x0052A10B 10 .noted 50060
    (proof.dm, proof.carrierDm) = (21, 16) := by decide
/-- Section 2.8 at 3150: the fourth hit opens an excursion with count 4. -/
theorem test_excursion_opens :
    let s := { ready with watches := modAt ready.watches 0 fun w => { w with state := .suspect, hits := 3 } }
    ((s.watchReading ⟨0, 3150, some 30, some (-200), .liveProduct⟩).watches.get 0).list =
      [⟨3150, .high, -200, 4, none, true⟩] := by decide
/-- Section 3.8 at 4111: the 91st door second of a budget of 90 sets DOOR_OVER. -/
theorem test_door_over :
    let s := { round with
      doors := modAt round.doors 1 fun d => { d with stopAcc := 1000 }
      stops := modAt round.stops 6 (Option.map fun st => { st with doorSecs := setAt st.doorSecs 1 90 }) }
    ((after (.stopDoorSecond 1) s).stops.get 6).map (fun st => (st.doorSecs.get 1, st.doorOver)) = some (91, true) := by
  decide

/-- R4: an answer that comes when the 1 s of its read has run out is no sample; the read is SILENT. -/
theorem test_late_answer :
    let reading (age : Nat) : State := { ready with scanner := { ready.scanner with
      scan := some { ready.newScan with age := age } } }
    ((after (.probeReadCompletion 0 (.value (-300))) (reading 1000)).probes.get 0).ring.map Sample.quality = [.silent] ∧
      ((after (.probeReadCompletion 0 (.value (-300))) (reading 999)).probes.get 0).ring.map Sample.quality = [.ok] :=
  by decide
/-- R158: a change that waits for the end of a notice acts there, before a waiting response begins. -/
theorem test_change_at_notice_end :
    let s := { ready with ports := modAt ready.ports 0 fun ps => { ps with
      changes := [⟨.dock, .b9600, 2, true⟩], tx := some (.notice ⟨.reportReady 7301 2, 50⟩ 0)
      request := some ⟨0x85, .ok, 7, [], .nothing⟩ } }
    let ps := (after (.noticeFrameEnd 0) s).ports.get 0
    ps.role = .dock ∧ ps.changes = [] ∧ ps.tx = some (.response ⟨0x85, .ok, 7, [], .nothing⟩ 1) := by decide
/-- R158: a role that goes to DOCK and back removes the bid, and a third change waits for its own response. -/
theorem test_each_change_acts :
    let s := { ready with ports := modAt ready.ports 0 fun ps => { ps with
      changes := [⟨.dock, .b19200, 2, true⟩, ⟨.noRole, .b19200, 1, false⟩, ⟨.cab, .b19200, 2, true⟩], bid := some 60 } }
    let ps := (after (.portSettingsEffect 0) s).ports.get 0
    ps.role = .cab ∧ ps.bid = none ∧ ps.changes = [⟨.noRole, .b19200, 1, false⟩] := by decide
/-- R180: with the backup supply lost, the start after a loss of main power is a full start. -/
theorem test_backup_supply_lost :
    let s := after .startReady (after .powerUp (after .mainPowerLoss (after .backupSupplyLoss round)))
    s.clockUnset = true ∧ s.lots.get 3 = none := by decide

/-- R20: a scan that was in flight when RESTART was taken delivers no reading. -/
theorem test_restart_abandons_the_scan :
    let reads := mapV (fun o => if o = .waiting then .done (some (-300)) else o) ready.newScan.reads
    let s := { ready with scanner := { ready.scanner with scan := some { ready.newScan with reads := reads } } }
    ((after (.scanCompletion 0) s).comps.get 0).lastLive = some (-300) ∧
      ((after (.scanCompletion 0) (after (.restart 2 7) s)).comps.get 0).lastLive = none := by decide

/-! ### Witnesses: states and operands that meet the hypotheses of each statement -/

section Witnesses

theorem witness_StepRunsFrontCommand :
    ({ ready with pending := [.scanStart] } : State).pending = .scanStart :: [] := by decide

/-- A port that is ANSWERING, a STARTING machine, and a CAB port that asks for DISPATCH. -/
theorem witness_RequestsAreJudged :
    encodeRequest (.dispatch 0 7) = some (0, 0x2A, 7, []) ∧ ready.phase ≠ .off ∧ (ready.ports.get 0).rx ≠ .broken ∧
      ready.phase = .ready ∧ hasRight 0x2A (ready.ports.get 0).role = false ∧
      State.reset.phase ≠ .off ∧ (State.reset.ports.get 0).rx ≠ .broken ∧ (State.reset.ports.get 0).request = none ∧
      State.reset.phase ≠ .ready ∧ ((after (.clockGet 0 7) ready).ports.get 0).request ≠ none ∧
      ((after (.clockGet 0 7) ready).ports.get 0).rx ≠ .broken := by decide

theorem witness_RefusalsChangeNothing : ∃ t r, encodeRequest (.dispatch 2 7) = some (2, 0x2A, 7, []) ∧
    (ready.ports.get 2).request = none ∧ exec (.dispatch 2 7) ready = .next t ∧ (t.ports.get 2).request = some r ∧
    r.status ≠ .ok ∧ r.status ≠ .pending ∧ r.status ≠ .deferred :=
  ⟨after (.dispatch 2 7) ready, ⟨0xAA, .state, 7, [], .nothing⟩, by decide, by decide, rfl, by decide, by decide,
    by decide, by decide⟩

/-- The two bodies of varying length at their greatest. -/
theorem witness_DecodeOfEncode :
    (Instr.settingsPut 2 7 0 0 (List.replicate 238 0)).wellFormed = true ∧
      encodeRequest (.settingsPut 2 7 0 0 (List.replicate 238 0)) = some (2, 0x08, 7, 0 :: 0 :: List.replicate 238 0) ∧
      (Instr.stopLoad 2 7 0 0 0 0 0 (List.replicate 37 (1, 1))).wellFormed = true := by decide +kernel

theorem witness_FrameDelivery :
    (Instr.clockGet 0 7).wellFormed = true ∧ encodeRequest (.clockGet 0 7) = some (0, 0x05, 7, []) ∧
      ready.phase ≠ .off ∧ (ready.ports.get 0).rx = .hunting := by decide

/-- A receiver on port 0. -/
def hearing (rx : Receiver) : State := { ready with ports := modAt ready.ports 0 fun ps => { ps with rx := rx } }

theorem witness_ReceiverBytes_hunting : ready.phase ≠ .off ∧ (ready.ports.get 0).rx = .hunting := by decide
theorem witness_ReceiverBytes_at_20_ms : (hearing (.inFrame [] 20)).phase ≠ .off ∧
    ((hearing (.inFrame [] 20)).ports.get 0).rx = .inFrame [] 20 := by decide
theorem witness_ReceiverBytes_at_21_ms : ((hearing (.inFrame [3, 1] 21)).ports.get 0).rx = .inFrame [3, 1] 21 := by
  decide
theorem witness_ReceiverBytes_last_but_one : ((hearing (.inFrame [2, 5, 7] 0)).ports.get 0).rx = .inFrame [2, 5, 7] 0 ∧
    [(5 : Byte), 7].length + 2 < (2 : Byte).toNat + 3 := by decide
theorem witness_ReceiverBytes_broken : (hearing .broken).phase ≠ .off ∧
    ((hearing .broken).ports.get 0).rx = .broken := by decide
theorem witness_ReceiverBytes_bad_check :
    2 ≤ [(5 : Byte), 7].length ∧
      ((hearing (.inFrame [2, 5, 7, 0] 20)).ports.get 0).rx =
        .inFrame (BitVec.ofNat 8 [(5 : Byte), 7].length :: [5, 7] ++ [0]) 20 ∧
      [(0 : Byte), 0] ≠ halfBytes (crc16 (BitVec.ofNat 8 [(5 : Byte), 7].length :: [5, 7])) := by decide +kernel

theorem witness_UndefinedAndDiscarded : (ready.ports.get 0).rx ≠ .broken ∧ definedKind 0x0A = false ∧
    ready.phase = .ready ∧ (ready.ports.get 0).request = none ∧
    ((after (.clockGet 0 7) ready).ports.get 0).request ≠ none := by decide
theorem witness_UndefinedAndDiscarded_starting : (State.reset.ports.get 0).rx ≠ .broken ∧ definedKind 0xFF = false ∧
    State.reset.phase ≠ .ready ∧ State.reset.phase ≠ .off ∧ (State.reset.ports.get 0).request = none := by decide
/-- One byte more or less than R183 gives, the least SETTINGS_PUT and STOP_LOAD, and a wrong entry and count in them. -/
theorem witness_UndefinedAndDiscarded_length :
    (List.replicate 240 (0 : Byte)).length ≤ 240 ∧ (ready.ports.get 0).rx = .hunting ∧ ready.takes 1 0x17 ∧
      ready.takes 2 0x08 ∧ ready.takes 2 0x29 ∧ [(3 : Byte), 0].length ≠ 1 ∧ ([] : List Byte).length ≠ 1 ∧
      [(0 : Byte)].length < 2 ∧ [6, 2, 6, 5, 19, 19][([(5 : Byte), 15, 1].headD 6).toNat]? = some 19 ∧
      [(5 : Byte), 15, 1].length ≠ 2 + 19 ∧ (List.replicate 13 (0 : Byte)).length < 14 ∧
      (List.replicate 14 (1 : Byte)).length ≠ 14 + 6 * ((List.replicate 14 (1 : Byte)).getD 13 0).toNat := by
  decide +kernel

def aResponse : Response := ⟨0x85, .ok, 7, [0, 0, 0, 0, 1], .nothing⟩
def aNotice : Notice := ⟨.reportReady 7301 2, 50⟩
def sending (f : TxFrame) : State := { ready with ports := modAt ready.ports 0 fun ps => { ps with tx := some f } }

theorem witness_TransmitterEnds :
    ((sending (.response aResponse 1)).ports.get 0).tx = some (.response aResponse 1) ∧
      ((sending (.notice aNotice 0)).ports.get 0).tx = some (.notice aNotice 0) := by decide
/-- A due change and a response both wait for the end of the notice. -/
theorem witness_TransmitterEnds_change :
    let s := (sending (.notice aNotice 0)).modPort 0 fun ps =>
      { ps with changes := [⟨.dock, .b9600, 2, true⟩], request := some aResponse }
    (s.ports.get 0).tx = some (.notice aNotice 0) ∧ (s.ports.get 0).changes.any PortChange.due = true ∧
      (s.ports.get 0).request = some aResponse := by decide

theorem witness_PortBreak : ready.phase ≠ .off ∧ (ready.ports.get 2).rx ≠ .broken ∧
    (hearing .broken).phase ≠ .off ∧ ((hearing .broken).ports.get 0).rx = .broken := by decide

/-- The break drops the response to a RESTART, and one for which a change of port 0 waits. -/
theorem witness_PortBreak_drops :
    let dropping (after : After) : State := ready.modPort 2 fun ps => { ps with
      request := some { aResponse with after := after }, tx := some (.response { aResponse with after := after } 0) }
    let changed : State := (dropping (.port 0)).modPort 0 fun ps => { ps with changes := [⟨.dock, .b9600, 2, false⟩] }
    ((dropping .restart).ports.get 2).request.any (fun r => r.after == .restart) = true ∧
      (changed.ports.get 2).request.any (fun r => r.after == .port 0) = true ∧
      ((changed.ports.get 0).changes.map PortChange.sender) = [2] := by decide

def changing (cs : List PortChange) : State := ready.modPort 0 fun ps => { ps with changes := cs }

theorem witness_PortSettingsEffect_none : (ready.ports.get 0).changes.any PortChange.due = false ∧
    ((sending (.response aResponse 1)).ports.get 0).tx ≠ none ∧
    ({ ready with phase := .off } : State).phase = .off := by decide
/-- One due change of the baud, and one of the role. -/
theorem witness_PortSettingsEffect : (changing [⟨.cab, .b9600, 2, true⟩]).phase ≠ .off ∧
    ((changing [⟨.cab, .b9600, 2, true⟩]).ports.get 0).tx = none ∧
    ((changing [⟨.cab, .b9600, 2, true⟩]).ports.get 0).changes = [] ++ ⟨.cab, .b9600, 2, true⟩ :: [] ∧
    (ready.ports.get 0).role = .cab ∧
    ((changing [⟨.dock, .b19200, 2, true⟩]).ports.get 0).changes = [] ++ ⟨.dock, .b19200, 2, true⟩ :: [] := by decide
/-- A due change between one that still waits for its response and a second due one. -/
theorem witness_PortSettingsEffect_queue :
    let s := changing [⟨.dock, .b9600, 1, false⟩, ⟨.cab, .b9600, 2, true⟩, ⟨.cab, .b19200, 2, true⟩]
    (s.ports.get 0).changes = [⟨.dock, .b9600, 1, false⟩] ++ ⟨.cab, .b9600, 2, true⟩ :: [⟨.cab, .b19200, 2, true⟩] ∧
      [(⟨.dock, .b9600, 1, false⟩ : PortChange)].any PortChange.due = false ∧
      [(⟨.cab, .b19200, 2, true⟩ : PortChange)].any PortChange.due = true := by decide

theorem witness_PortRequests : ready.takes 0 0x01 ∧ ready.takes 1 0x02 ∧ ready.takes 2 0x03 := by decide
theorem witness_ScanBid : ready.takes 0 0x04 := by decide

theorem witness_Clock : ready.takes 2 0x05 ∧ ready.takes 2 0x06 ∧ ready.route.state ≠ .dispatched ∧
    round.takes 2 0x06 ∧ round.route.state = .dispatched := by decide
theorem witness_SettingsPutOrder : ready.takes 2 0x08 := by decide
/-- Factory entries of section 12.4, and each group's last index and first one out of range. -/
theorem witness_SettingsPutOrder_entries :
    ready.settings.put .general [10, 0, 30, 1, 44, 30] = some ready.settings ∧
      ready.settings.put .general [10, 0, 9, 1, 44, 30] = none ∧ entryRef 0 1 = none ∧ entryRef 1 2 = some (.port 2) ∧
      entryRef 1 3 = none ∧ entryRef 2 7 = some (.probe 7) ∧ entryRef 2 8 = none ∧ entryRef 3 3 = some (.door 3) ∧
      entryRef 3 4 = none ∧ entryRef 4 4 = none ∧ entryRef 5 15 = some (.cls 15) ∧ entryRef 5 16 = none ∧
      entryRef 6 0 = none := by decide

/-- A SETTINGS_PUT that is accepted, with the entry it names. -/
def putIs (group index : Byte) (entry : List Byte) (r : EntryRef) : Bool :=
  decide (ready.takes 2 0x08) && !badEntryLength group entry && decide (entryRef group index = some r)
    && decide (ready.route.state ≠ .dispatched) && !ready.storeWrite && !ready.restartTaken
    && (ready.settings.put r entry).any fun new => !ready.entryInUse r new

theorem witness_SettingsPutEffect_general : putIs 0 0 [10, 0, 30, 1, 44, 30] .general = true := by decide
theorem witness_SettingsPutEffect_port : putIs 1 0 [3, 0] (.port 0) = true := by decide
theorem witness_SettingsPutEffect_probe : putIs 2 7 [1, 3, 1, 0xE0, 2, 0x80] (.probe 7) = true := by decide
theorem witness_SettingsPutEffect_polarity : putIs 3 3 [1, 0, 20, 0, 10] (.door 3) = true := by decide
theorem witness_SettingsPutEffect_debounce : putIs 3 3 [0, 3, 232, 14, 16] (.door 3) = true := by decide
/-- An OPEN door with a candidate of 500 ms and a held timer of 120 s: the debounce time at the candidate's age, one
above it with the held limit at the held timer, and both above. -/
theorem witness_SettingsPutEffect_door :
    let x : Door := { Door.fresh false with state := .opened, candidate := some 500, period := some ⟨7, none, 120⟩ }
    let s : State := ready.modDoor 3 fun _ => x
    let put (entry : List Byte) := (s.settings.put (.door 3) entry).map fun new => new.doors.get 3
    let cfg (debounce held : Nat) : DoorCfg := { polarity := .openHigh, debounce := debounce, heldLimit := held }
    s.takes 2 0x08 ∧ (s.doors.get 3).state = .opened ∧ (s.doors.get 3).high = false ∧
      (s.doors.get 3).candidate = some 500 ∧ (s.doors.get 3).period = some ⟨7, none, 120⟩ ∧
      (s.settings.doors.get 3).polarity = .openHigh ∧ put [0, 1, 244, 0, 120] = some (cfg 500 120) ∧
      put [0, 1, 245, 0, 120] = some (cfg 501 120) ∧ put [0, 1, 245, 0, 121] = some (cfg 501 121) := by decide
theorem witness_SettingsPutEffect_compartment :
    putIs 4 3 [1, 15, 0xFC, 0x90, 0xFC, 0x91, 1, 1, 1, 0, 0, 0, 0, 0, 0, 0, 60, 0, 1] (.compartment 3) = true := by
  decide
theorem witness_SettingsPutEffect_class :
    putIs 5 15 [7, 207, 0, 1, 0, 1, 0, 0, 7, 208, 0, 1, 1, 0, 0, 0, 0, 0, 1] (.cls 15) = true := by decide

theorem witness_StoreWriteAndRestart : ({ ready with storeWrite := true } : State).phase ≠ .off ∧
    ready.takes 2 0x09 ∧ ({ ready with restartDue := true } : State).phase = .ready := by decide
theorem witness_Supplies : ({ ready with phase := .off } : State).phase = .off ∧ ready.phase ≠ .off ∧
    ({ ready with storeWrite := true } : State).storeWrite = true ∧ ready.marker = true ∧
    (after .backupSupplyLoss ready).phase ≠ .off ∧ (after .backupSupplyLoss ready).marker = false ∧
    State.reset.phase ≠ .off ∧ State.reset.marker = false := by decide
theorem witness_FullStart : State.reset.phase = .starting .powerUp ∧ State.reset.marker = false := by decide

def resuming : State := { offered with phase := .starting .powerUp }
theorem witness_KeptStart : resuming.phase = .starting .powerUp ∧ resuming.marker = true ∧
    (resuming.claims.map Claim.number).Nodup ∧ resuming.lots.get 3 = some offeredLot ∧ resuming.lots.get 0 = none ∧
    ({ back with phase := .starting .restart, claims := [{ claim1 with state := .withdrawn }] } : State).phase =
      .starting .restart ∧ Claim.live { claim1 with state := .withdrawn } = false := by decide
/-- A claim that was being assessed, and the handoff of twelve cartons that lapses. -/
theorem witness_KeptStart_claim :
    let s := { back with phase := .starting .restart, claims := [{ claim1 with state := .assessing }] }
    s.phase = .starting .restart ∧ s.marker = true ∧ (s.claims.map Claim.number).Nodup ∧
      resuming.cartonsOffered (List.finRange 128) 3 = 12 := by decide +kernel

theorem witness_StatusReads : indexIn 4 3 = some 3 ∧ indexIn 8 7 = some 7 ∧ indexIn 64 63 = some 63 ∧
    indexIn 32 31 = some 31 ∧ indexIn 128 40 = some 40 ∧ entryRef 5 15 = some (.cls 15) ∧ ready.takes 0 0x10 ∧
    ready.takes 0 0x11 ∧ ready.takes 0 0x14 ∧ ready.takes 0 0x16 ∧ ready.takes 0 0x07 ∧ ready.takes 0 0x24 ∧
    ready.takes 0 0x25 ∧ ready.takes 0 0x2E ∧ ready.takes 0 0x34 ∧ ready.takes 2 0x3C := by decide
theorem witness_StatusReads_lot : (7301 : Word) ≠ 0 ∧ (2 : Byte).toNat ≤ 2 ∧
    offered.lotNamed 7301 = some (3, offeredLot) ∧ offered.takes 0 0x24 ∧ offered.handoffs.get 40 = some offer := by
  decide

/-- Each operand at the first value out of its range, a lot and a handoff that are not in their tables. -/
theorem witness_StatusReads_refused : 4 ≤ (4 : Byte).toNat ∧ 8 ≤ (8 : Byte).toNat ∧ 64 ≤ (64 : Byte).toNat ∧
    32 ≤ (32 : Byte).toNat ∧ 128 ≤ (128 : Byte).toNat ∧ 3 ≤ (3 : Byte).toNat ∧
    ([1, 3, 8, 4, 4, 16][(0 : Byte).toNat]?).all (fun n => decide (n ≤ (1 : Byte).toNat)) = true ∧
    ([1, 3, 8, 4, 4, 16][(5 : Byte).toNat]?).all (fun n => decide (n ≤ (16 : Byte).toNat)) = true ∧
    ([1, 3, 8, 4, 4, 16][(6 : Byte).toNat]?).all (fun n => decide (n ≤ (0 : Byte).toNat)) = true ∧
    (7302 : Word) ≠ 0 ∧ offered.lotNamed 7302 = none ∧ offered.handoffs.get 41 = none ∧ indexIn 128 41 = some 41 := by
  decide

theorem witness_ProbeClearAndWatchRearm : ready.takes 1 0x12 ∧ ready.takes 1 0x13 ∧ (7 : Byte).toNat < 8 ∧
    ¬ (8 : Byte).toNat < 8 ∧ (3 : Byte).toNat < 4 ∧ ¬ (4 : Byte).toNat < 4 := by decide
theorem witness_DoorRearm : indexIn 4 3 = some 3 ∧ ready.takes 1 0x15 ∧ 4 ≤ (4 : Byte).toNat := by decide
theorem witness_DefrostAsk : indexIn 4 3 = some 3 ∧ ready.takes 1 0x17 ∧ 4 ≤ (4 : Byte).toNat := by decide
theorem witness_DefrostEndAndRefill : indexIn 4 3 = some 3 ∧ ready.takes 1 0x18 ∧ ready.phase = .ready ∧
    4 ≤ (4 : Byte).toNat := by decide

theorem witness_LotOrder : ready.takes 2 0x20 ∧ ready.takes 0 0x21 ∧ ready.takes 0 0x22 ∧ ready.takes 2 0x23 := by
  decide

/-- The last slot is the only free one. -/
def nearlyFull : State := { loading with
  lots := Vector.ofFn fun i => if i.val < 63 then some (Lot.load (BitVec.ofNat 32 (i.val + 1)) 0 0 1) else none }

theorem witness_LotLoad : nearlyFull.takes 2 0x20 ∧ nearlyFull.route.state = .loading ∧ (64 : Word) ≠ 0 ∧
    (65535 : Half) ≠ 0 ∧ indexIn 16 15 = some 15 ∧ indexIn 4 3 = some 3 ∧
    (∀ j : Slot, (nearlyFull.lots.get j).all (fun l => decide (l.number ≠ 64)) = true) ∧
    nearlyFull.lots.get 63 = none ∧ (∀ j : Slot, j < 63 → nearlyFull.lots.get j ≠ none) := by decide +kernel

theorem witness_LotMoveAndWriteOff : (7301 : Word) ≠ 0 ∧ round.lotNamed 7301 = some (3, onVan) ∧
    onVan.state = .onBoard ∧ round.takes 0 0x21 ∧ indexIn 4 1 = some 1 ∧ onVan.qty.offered = 0 ∧
    (round.settings.comps.get 1).enabled = true ∧ round.takes 0 0x22 ∧ 1 ≤ (40 : Half).toNat ∧
    (40 : Half).toNat ≤ onVan.qty.onBoard := by decide

/-- The claim window of 48 hours has just run out; with force it need not. -/
theorem witness_LotRetire : back.takes 2 0x23 ∧ (7301 : Word) ≠ 0 ∧ back.lotNamed 7301 = some (3, backLot) ∧
    back.route.state ≠ .dispatched ∧ backLot.state = .returned ∧ backLot.handoffs = [40] ∧
    back.handoffs.get 40 = some settled ∧ settled.settleTime = some 50095 ∧
    (back.settings.classes.get backLot.cls).window * 3600 < span 50095 222896 ∧
    ({ back with claims := [{ claim1 with state := .withdrawn }] } : State).claims =
      [{ claim1 with state := .withdrawn }] := by decide

theorem witness_ReportLot : ready.takes 2 0x26 := by decide

theorem witness_RouteBeginAndStopLoad : ready.takes 2 0x28 ∧ ready.takes 2 0x29 ∧ ready.route.state ≠ .loading ∧
    loading.takes 2 0x29 ∧ loading.route.state = .loading ∧ indexIn 32 31 = some 31 ∧ loading.stops.get 31 = none ∧
    ([(5507, 12)] : List (Word × Half)).length ≤ 8 ∧
    ([(5507, 12)] : List (Word × Half)).all (fun e => e.1 != 0 && e.2 != 0) = true ∧ 32 ≤ (32 : Byte).toNat := by decide
theorem witness_RouteBeginAndStopLoad_lots : (([(5507, 12)] : List (Word × Half)).map Prod.fst).Nodup ∧
    loading.lotNamed 5507 ≠ none := by decide
theorem witness_Dispatch : loading.takes 2 0x2A := by decide
theorem witness_Return : between.takes 2 0x2B ∧ between.route.state = .dispatched ∧ between.route.openStop = none := by
  decide
theorem witness_StopOpen : between.takes 0 0x2C := by decide
theorem witness_StopClose : between.takes 0 0x2D ∧ between.route.openStop = none ∧ offered.takes 0 0x2D ∧
    offered.route.openStop = some 6 ∧ offered.stops.get 6 = some { stop6 with offers := [40] } ∧
    (∀ d : Comp, (offered.doors.get d).stopAcc < 1000) := by decide

/-- Doors 1 and 3 have whole seconds left in their accumulators; the 91st door second passes a budget of 90. -/
theorem witness_StopClose_drain :
    let s := { offered with
      doors := modAt (modAt offered.doors 1 fun d => { d with stopAcc := 1000 }) 3 fun d => { d with stopAcc := 2500 }
      stops := modAt offered.stops 6 (Option.map fun st => { st with doorSecs := setAt st.doorSecs 1 90 }) }
    s.takes 0 0x2D ∧ s.route.openStop = some 6 ∧ s.stops.get 6 ≠ none ∧ 1000 ≤ (s.doors.get 1).stopAcc ∧
      (∀ e : Comp, e < 1 → (s.doors.get e).stopAcc < 1000) ∧
      ((after (.stopClose 0 7) s).stops.get 6).map (fun st => (st.doorSecs.toList, st.doorOver)) =
        some ([0, 91, 0, 2], true) := by decide

theorem witness_Timers_stop :
    let s := { round with stops := setAt round.stops 6 (some { stop6 with timer := some 0 }) }
    s.phase = .ready ∧ s.route.openStop = some 6 ∧ s.stops.get 6 = some { stop6 with timer := some 0 } := by decide
theorem witness_Timers_ack :
    let s := { offered with handoffs := setAt offered.handoffs 40 (some { offer with ack := some 0 }) }
    s.phase = .ready ∧ s.handoffs.get 40 = some { offer with ack := some 0 } ∧
      s.lots.get offer.slot = some offeredLot ∧ offer.q ≤ offeredLot.qty.offered ∧ offer.state = .offered := by decide
/-- The shop took 10 of the 12: the accept has taken the offer out of the lot's offered, which is 0. -/
def accepted : State := after (.handoffAccept 0 0 40 0x0052A10B 10 1) offered
def accepted0 : State := accepted.modHandoff 40 fun h => { h with ack := some 0 }
theorem witness_Timers_proof : accepted0.phase = .ready ∧
    (accepted0.handoffs.get 40).map (fun h => (h.ack, h.state)) = some (some 0, .proofReady) ∧
    (accepted0.lots.get 3).map (fun l => l.qty.offered) = some 0 := by decide
def aReport : Report := { round.latchReport 2 3 onVan with timer := none }
theorem witness_Timers_report :
    let s := { round with report := some aReport }
    s.phase = .ready ∧ s.report = some aReport ∧ aReport.timer = none := by decide
theorem witness_Timers_discard :
    let s := { round with report := some { aReport with timer := some 0 } }
    s.phase = .ready ∧ s.report = some { aReport with timer := some 0 } := by decide

theorem witness_HandoffOffer : round.takes 0 0x30 ∧ round.route.state = .dispatched ∧ round.route.openStop = some 6 ∧
    round.stops.get 6 = some stop6 ∧ between.takes 0 0x30 ∧ between.route.openStop = none := by decide
/-- The last index is the only free one. -/
theorem witness_HandoffOffer_last :
    let s := { round with handoffs := Vector.ofFn fun j => if j.val < 127 then some offer else none }
    s.lotNamed 7301 = some (3, onVan) ∧ onVan.state = .onBoard ∧ (40 : Half).toNat ≤ onVan.qty.onBoard ∧
      onVan.handoffs.length < 16 ∧ s.handoffs.get 127 = none ∧ ∀ k : HIndex, k < 127 → s.handoffs.get k ≠ none := by
  decide +kernel

/-- The whole of the offer accepted, none of it, and a code that does not match. -/
theorem witness_HandoffAccept : offered.takes 0 0x31 ∧ indexIn 128 40 = some 40 ∧
    offered.handoffs.get 40 = some offer ∧ offer.state = .offered ∧ (12 : Half).toNat ≤ offer.q ∧
    offered.lots.get offer.slot = some offeredLot ∧ offer.q ≤ offeredLot.qty.offered ∧
    (0x0052A10B ^^^ offer.consignee) &&& offer.mask = 0 ∧ (0x0052B10B ^^^ offer.consignee) &&& offer.mask ≠ 0 := by
  decide

/-- The checks: an index and a condition one too great, a free entry, a handoff that has ended, one carton too many. -/
theorem witness_HandoffAccept_refused : offered.takes 0 0x31 ∧ 128 ≤ (128 : Byte).toNat ∧ 2 ≤ (2 : Byte).toNat ∧
    (1 : Byte).toNat ≤ 1 ∧ indexIn 128 41 = some 41 ∧ offered.handoffs.get 41 = none ∧ offer.q < (13 : Half).toNat ∧
    ({ back with route := offered.route } : State).takes 0 0x31 ∧ back.handoffs.get 40 = some settled ∧
    settled.state ≠ .offered := by decide

theorem witness_HandoffCopiedAndWithdraw_refused : 128 ≤ (128 : Byte).toNat ∧ offered.takes 0 0x32 ∧
    offered.takes 0 0x33 ∧ indexIn 128 127 = some 127 ∧ offered.handoffs.get 127 = none := by decide
theorem witness_HandoffCopiedAndWithdraw : offered.takes 0 0x32 ∧ offered.takes 0 0x33 ∧ indexIn 128 40 = some 40 ∧
    offered.handoffs.get 40 = some offer ∧ offered.lots.get offer.slot = some offeredLot ∧
    offer.q ≤ offeredLot.qty.offered := by decide
theorem witness_HandoffCopiedAndWithdraw_127 :
    let s := { offered with handoffs := setAt offered.handoffs 127 (some { offer with state := .proofReady }) }
    s.takes 0 0x32 ∧ indexIn 128 127 = some 127 ∧ s.handoffs.get 127 = some { offer with state := .proofReady } := by
  decide

/-- Handoffs that HANDOFF_WITHDRAW can no longer undo, each with nothing on offer in its lot. -/
theorem witness_HandoffCopiedAndWithdraw_ended :
    let ended (x : HandoffState) : State :=
      { offered with
        handoffs := setAt offered.handoffs 40 (some { offer with state := x })
        lots := setAt offered.lots 3 (some onVan) }
    (∀ x ∈ [HandoffState.proofReady, .settled, .lapsed, .withdrawn, .refused], (ended x).takes 0 0x33 ∧
      (ended x).handoffs.get 40 = some { offer with state := x } ∧ (ended x).lots.get 3 = some onVan) ∧
    onVan.qty.offered = 0 ∧ 0 < offer.q := by decide

/-- Each check of CLAIM_LODGE with an operand or a state that it refuses, and the last second of the claim window. -/
theorem witness_ClaimLodgeOrder : back.takes 2 0x38 ∧ 128 ≤ (128 : Byte).toNat ∧ indexIn 128 127 = some 127 ∧
    back.handoffs.get 127 = none ∧ indexIn 128 40 = some 40 ∧ back.handoffs.get 40 = some settled ∧
    settled.state = .settled ∧ settled.settleTime = some 50095 ∧ back.lots.get settled.slot = some backLot ∧
    (0x0052B10B ^^^ settled.consignee) &&& settled.mask ≠ 0 ∧ (0x0052A10B ^^^ settled.consignee) &&& settled.mask = 0 ∧
    settled.accepted < (11 : Half).toNat ∧ (10 : Half).toNat ≤ settled.accepted ∧
    span 50095 222895 = (back.settings.classes.get backLot.cls).window * 3600 ∧
    (offered.handoffs.get 40).map Handoff.state = some .offered ∧ offered.takes 0 0x38 := by decide
theorem witness_ClaimLodgeOrder_held :
    ([{ claim1 with state := .withdrawn }, { claim1 with number := 2, state := .decided }] : List Claim).find?
      (fun c => c.handoff == 40 && c.state != .withdrawn) = some { claim1 with number := 2, state := .decided } := by
  decide

/-- The quantity is the whole accepted; the time is the last second of the claim window. -/
theorem witness_ClaimLodge :
    let s := { back with seconds := 222895 }
    s.takes 2 0x38 ∧ indexIn 128 40 = some 40 ∧ (10 : Half) ≠ 0 ∧ s.handoffs.get 40 = some settled ∧
      settled.state = .settled ∧ settled.settleTime = some 50095 ∧ s.lots.get settled.slot = some backLot ∧
      settled.snap ≠ none ∧ backLot.dispatched ≠ none ∧ (0x0052A10B ^^^ settled.consignee) &&& settled.mask = 0 ∧
      (10 : Half).toNat ≤ settled.accepted ∧ s.claims = [] ∧
      span 50095 s.seconds ≤ (s.settings.classes.get backLot.cls).window * 3600 ∧ 1 ≤ s.nextClaim ∧
      s.nextClaim ≤ 65535 ∧ s.assessor = none := by decide

def claiming (c : Claim) : State := { back with claims := [c] }
theorem witness_ClaimRequests : (1 : Half) ≠ 0 ∧ (claiming claim1).claimNamed 1 = some claim1 ∧
    (claiming claim1).takes 2 0x39 ∧ (claiming claim1).takes 2 0x3A ∧ (claiming claim1).takes 2 0x3B := by decide

theorem witness_ClaimRequests_refused : (2 : Half) ≠ 0 ∧ (claiming claim1).claimNamed (2 : Half).toNat = none :=
  by decide

def assessing : Claim := { claim1 with state := .assessing }
def anAssessment : Assessment := evidence 288000 1 120 48000 0 0 none
theorem witness_Assessor_decides :
    let s := { claiming assessing with assessor := some anAssessment }
    s.phase = .ready ∧ s.assessor = some anAssessment ∧ anAssessment.discard = false ∧
      anAssessment.claim = some assessing.number ∧ s.claimNamed assessing.number = some assessing ∧
      s.handoffs.get assessing.handoff = some settled := by decide
theorem witness_Assessor_discards :
    let s := { back with assessor := some { anAssessment with claim := none, discard := true } }
    s.phase = .ready ∧ s.assessor = some { anAssessment with claim := none, discard := true } := by decide
theorem witness_Assessor_starts : (claiming claim1).assessor = none ∧ (claiming claim1).claims = [] ++ claim1 :: [] ∧
    claim1.state = .lodged ∧ (claiming claim1).handoffs.get claim1.handoff = some settled ∧
    (claiming claim1).lots.get settled.slot = some backLot ∧ settled.snap ≠ none ∧ backLot.dispatched ≠ none ∧
    back.claims = [] := by decide

theorem witness_ScanStart : ready.phase = .ready ∧ ready.scanner.scan = none ∧
    ready.scanner.nextDue ≤ ready.scanner.elapsed := by decide

/-- A scan that waits for its four enabled probes, and the same scan with every read completed. -/
def aScan : Scan := ready.newScan
def aDoneScan : Scan := { aScan with reads := mapV (fun o => if o = .waiting then .done none else o) aScan.reads }
def scanning (x : Scan) : State := { ready with scanner := { ready.scanner with scan := some x } }
theorem witness_ProbeRead : (scanning aScan).phase = .ready ∧ (scanning aScan).scanner.scan = some aScan ∧
    aScan.reads.get 3 = .waiting := by decide
theorem witness_ProbeRead_late : (scanning { aScan with age := 1000 }).scanner.scan = some { aScan with age := 1000 } ∧
    ({ aScan with age := 1000 } : Scan).reads.get 3 = .waiting ∧ 1000 ≤ ({ aScan with age := 1000 } : Scan).age ∧
    aScan.age < 1000 := by decide
theorem witness_ScanCompletion : (scanning aDoneScan).phase = .ready ∧
    (scanning aDoneScan).scanner.scan = some aDoneScan ∧ (∀ i : Probe, aDoneScan.reads.get i ≠ .waiting) ∧
    ({ scanning aDoneScan with lots := round.lots } : State).lots.get 3 = some onVan := by decide

theorem witness_DoorEvents :
    let s := { ready with doors := modAt ready.doors 3 fun d =>
      { d with high := true, state := .opened, period := some ⟨7, none, 120⟩ } }
    ready.phase ≠ .off ∧ s.phase = .ready ∧ (s.doors.get 3).state = .opened ∧
      (s.doors.get 3).period = some ⟨7, none, 120⟩ ∧ (s.settings.doors.get 3).heldLimit ≤ 120 := by decide
theorem witness_ExposureStep : round.lots.get 3 = some onVan ∧ onVan.accounting = true ∧ onVan.comp = 0 ∧
    onVan.joined = true := by decide
theorem witness_ExposureStep_first : (⟨0, 9, none, some (-239), .liveProduct⟩ : Reading).step = none ∧
    (⟨0, 9, some 30, none, .noSource⟩ : Reading).step = some 30 ∧ (round.bases.get 0).base = none ∧
    ({ round with bases := modAt round.bases 0 fun b => { b with base := some 50000 } } : State).bases.get 0 =
      { base := some 50000, mark := 0, last := none } := by decide

/-- The factory band is -640 to -240, with trigger 4 and clear 2: a reading at a limit, one outside it, and each
watch state with its counters one short of the change and at it. -/
theorem witness_WatchReading :
    let cfg := ready.settings.comps.get 0
    let r : Reading := ⟨0, 9, none, some (-239), .liveProduct⟩
    let e : Excursion := ⟨5, .high, -200, 4, none, true⟩
    let s (state : WatchState) (hits clears : Nat) (list : List Excursion) : State :=
      ready.modWatch 0 fun w => { w with state := state, hits := hits, clears := clears, list := list }
    let w (state : WatchState) (hits clears : Nat) (list : List Excursion) := (s state hits clears list).watches.get 0
    r.temp = some (-239) ∧ cfg.high < -239 ∧ -240 ≤ cfg.high ∧ cfg.low ≤ -640 ∧ -641 < cfg.low ∧
      ((ready.modDefrost 0 fun a => { a with state := .active }).defrosts.get 0).state = .active ∧
      (ready.defrosts.get 0).state ≠ .active ∧
      (w .normal 0 0 []).state = .normal ∧ (w .suspect 2 0 []).state = .suspect ∧
      min ((w .suspect 2 0 []).hits + 1) 255 < cfg.trigger ∧ cfg.trigger ≤ min ((w .suspect 3 0 []).hits + 1) 255 ∧
      (w .excursion 4 0 [e]).state = .excursion ∧ 1 < cfg.clear ∧ (w .excursion 4 0 [e]).list = [] ++ [e] ∧
      cfg.clear ≤ min ((w .recovering 4 1 [e]).clears + 1) 255 := by decide

theorem witness_AcceptedChange :
    let s := { ready with doors := modAt ready.doors 3 fun d =>
      { d with high := true, state := .closed, candidate := some 200 } }
    s.phase ≠ .off ∧ (s.doors.get 3).candidate = some 200 ∧ (s.settings.doors.get 3).debounce ≤ 200 := by decide
theorem witness_DoorEvents_stop :
    let s := { round with doors := modAt round.doors 1 fun d => { d with stopAcc := 1000 } }
    s.phase ≠ .off ∧ s.route.openStop = some 6 ∧ s.stops.get 6 = some stop6 ∧ 1000 ≤ (s.doors.get 1).stopAcc := by
  decide

theorem witness_TimePasses : ready.pending = [] ∧ ready.phase = .ready ∧ ready.subMs < 999 ∧
    999 ≤ ({ ready with subMs := 999 } : State).subMs ∧
    ({ ready with phase := .off, marker := false } : State).marker = false ∧
    ({ ready with phase := .off } : State).marker = true ∧ State.reset.phase ≠ .off ∧ State.reset.phase ≠ .ready ∧
    State.reset.pending = [] := by decide

/-- The laws hold of a round with an offer out, and of a depot with a claim, and such a machine can step. -/
theorem witness_LotLawKept : offered.lotLaw ∧ step offered = .next offered.idle := ⟨by decide +kernel, rfl⟩
theorem witness_CapacityLawKept : offered.capacityLaw ∧ step offered = .next offered.idle := ⟨by decide +kernel, rfl⟩
theorem witness_CapacityLawKept_watch :
    let s := ready.modWatch 3 fun w =>
      { w with
        state := .excursion, hits := 255
        list := [⟨5, .high, -200, 4, some 9, true⟩, ⟨15, .low, -700, 4, none, true⟩] }
    s.watchLaw ∧ step s = .next s.idle := ⟨by decide +kernel, rfl⟩
theorem witness_PeriodAndPoolLawKept : offered.periodLaw ∧ offered.poolLaw ∧ step offered = .next offered.idle :=
  ⟨by decide +kernel, by decide +kernel, rfl⟩
theorem witness_ClaimLawKept : (claiming claim1).claimLaw ∧ step (claiming claim1) = .next (claiming claim1).idle :=
  ⟨by decide +kernel, rfl⟩
theorem witness_OpenStopLawKept : offered.openStopLaw ∧ step offered = .next offered.idle := ⟨by decide +kernel, rfl⟩

end Witnesses

end Sys2Proof.Tests
end

section
/-!
PROOF. What a reading does to the Excursion Watch (R23 to R32): one equation per case of each of the watch's operations,
and the statement put together from them.
-/
namespace Sys2Proof.Machine

/-! ### Sources, classes and lots -/

theorem Source.live_iff (x : Source) : x.live = true ↔ x = .liveProduct ∨ x = .liveAir := by
  cases x <;> simp [Source.live]

theorem classify_high {cfg : CompCfg} {v : Int} (above : cfg.high < v) : classify cfg v = .hit .high := by
  simp [classify, above]

theorem classify_low {cfg : CompCfg} {v : Int} (band : cfg.low ≤ cfg.high) (below : v < cfg.low) :
    classify cfg v = .hit .low := by
  have notAbove : ¬ cfg.high < v := by omega
  simp [classify, notAbove, below]

theorem classify_inBand {cfg : CompCfg} {v : Int} (high : v ≤ cfg.high) (low : cfg.low ≤ v) :
    classify cfg v = .inBand := by
  simp [classify, Int.not_lt.mpr high, Int.not_lt.mpr low]

theorem Lot.accountingIn_iff (c : Comp) (l : Lot) : l.accountingIn c = true ↔ l.accounting = true ∧ l.comp = c := by
  simp [Lot.accountingIn]

theorem addExcursion_eq (list : List Excursion) (e : Excursion) :
    addExcursion list e = (if list.length < 8 then list else list.drop 1) ++ [e] := by
  simp [addExcursion]

/-- A hit moves the peak of the open record only on the record's own side, and only away from the band (R27). -/
theorem Excursion.hit_eq (side : Side) (v : Int) (e : Excursion) :
    e.hit side v = { e with
      count := satAdd 16 e.count 1
      peak := if side = e.side ∧ (side = .high ∧ e.peak < v ∨ side = .low ∧ v < e.peak) then v else e.peak } := by
  unfold Excursion.hit
  cases e.side <;> cases side <;> simp

/-! ### The counters -/

/-- The hit counter after a hit: a NORMAL watch starts it afresh (R24). -/
def Watch.hitCount (w : Watch) : Nat := if w.state = .normal then 1 else satAdd 8 w.hits 1

/-- The clear counter after a reading in band: an EXCURSION starts it afresh (R24). -/
def Watch.clearCount (w : Watch) : Nat := if w.state = .excursion then 1 else satAdd 8 w.clears 1

theorem Watch.busy_of_not_calm {w : Watch} (busy : ¬ (w.state = .normal ∨ w.state = .suspect)) :
    w.state = .excursion ∨ w.state = .recovering := by
  cases hs : w.state <;> simp_all

variable {s : State} {r : Reading} {v : Int} {side : Side}

/-- A change of a watch sets it to what the change makes of the watch as it stands. -/
theorem State.modWatch_eq_const (c : Comp) (f : Watch → Watch) :
    s.modWatch c f = s.modWatch c fun _ => f (s.watches.get c) := rfl

/-! ### Opening and closing a record -/

/-- The opening of a record is noticed by the mode and the armed flag as they stand before it (R29). -/
theorem State.openExcursion_eq (hits : Nat) :
    let cfg := s.settings.comps.get r.comp
    let w := s.watches.get r.comp
    let noticed := decide (cfg.mode = .every) || w.armed
    let t := s.modWatch r.comp fun _ => { w with
      state := .excursion, hits := hits, clears := 0
      armed := if cfg.mode = .firstOnly then false else w.armed
      list := (if w.list.length < 8 then w.list else w.list.drop 1) ++ [⟨r.time, side, v, hits, none, noticed⟩] }
    let t := { t with lots := mapV (Option.map fun l : Lot => if l.accounting = true ∧ l.comp = r.comp then
      { l with acct := { l.acct with excursions := satAdd 8 l.acct.excursions 1 } } else l) s.lots }
    s.openExcursion r side v hits = if noticed then t.post (.excursionStart r.comp r.time side v) else t := by
  simp only [State.openExcursion, Lot.accountingIn_iff, addExcursion_eq]
  rfl

/-- Closing a watch whose newest record is `e` closes `e`, and its end is posted if its opening was noticed (R29). -/
theorem State.closeExcursion_eq {list : List Excursion} {e : Excursion}
    (newest : (s.watches.get r.comp).list = list ++ [e]) :
    let t := s.modWatch r.comp fun _ => { s.watches.get r.comp with
      state := .normal, hits := 0, clears := 0, list := list ++ [{ e with finish := some r.time }] }
    s.closeExcursion r =
      if e.noticed then t.post (.excursionEnd r.comp e.start r.time e.side e.peak e.count) else t := by
  intro t
  unfold State.closeExcursion
  rw [State.modWatch_eq_const]
  simp only [t, newest, modLast_append, List.getLast?_concat]

/-! ### A hit -/

theorem State.watchHit_of_calm
    (calm : (s.watches.get r.comp).state = .normal ∨ (s.watches.get r.comp).state = .suspect) :
    s.watchHit r side v =
      let hits := (s.watches.get r.comp).hitCount
      if (s.settings.comps.get r.comp).trigger ≤ hits then s.openExcursion r side v hits
      else s.modWatch r.comp fun w => { w with state := .suspect, hits := hits } := by
  unfold State.watchHit Watch.hitCount
  rcases calm with hs | hs <;> simp [hs]

theorem State.watchHit_of_busy {list : List Excursion} {e : Excursion}
    (busy : ¬ ((s.watches.get r.comp).state = .normal ∨ (s.watches.get r.comp).state = .suspect))
    (newest : (s.watches.get r.comp).list = list ++ [e]) :
    s.watchHit r side v = s.modWatch r.comp fun _ => { s.watches.get r.comp with
      state := .excursion, clears := 0, hits := satAdd 8 (s.watches.get r.comp).hits 1
      list := list ++ [e.hit side v] } := by
  have update : s.watchHit r side v = s.modWatch r.comp fun w => { w with
      state := .excursion, clears := 0, hits := satAdd 8 w.hits 1, list := modLast (Excursion.hit side v) w.list } := by
    unfold State.watchHit
    rcases Watch.busy_of_not_calm busy with hs | hs <;> simp [hs]
  rw [update, State.modWatch_eq_const]
  simp only [newest, modLast_append]

/-! ### A reading in band -/

theorem State.watchInBand_of_normal (normal : (s.watches.get r.comp).state = .normal) : s.watchInBand r = s := by
  simp [State.watchInBand, normal]

theorem State.watchInBand_of_suspect (suspect : (s.watches.get r.comp).state = .suspect) :
    s.watchInBand r = s.modWatch r.comp fun w => { w with state := .normal, hits := 0 } := by
  simp [State.watchInBand, suspect]

theorem State.watchInBand_of_busy
    (busy : ¬ ((s.watches.get r.comp).state = .normal ∨ (s.watches.get r.comp).state = .suspect)) :
    s.watchInBand r =
      let clears := (s.watches.get r.comp).clearCount
      if (s.settings.comps.get r.comp).clear ≤ clears then s.closeExcursion r
      else s.modWatch r.comp fun w => { w with state := .recovering, clears := clears } := by
  unfold State.watchInBand Watch.clearCount
  rcases Watch.busy_of_not_calm busy with hs | hs <;> simp [hs]

/-! ### Taking a reading -/

theorem State.watchReading_of_not_live
    (ignored : r.temp = none ∨ r.source ≠ .liveProduct ∧ r.source ≠ .liveAir) : s.watchReading r = s := by
  rcases ignored with absent | dead
  · simp [State.watchReading, absent]
  · have dead : r.source.live = false := by
      rw [← Bool.not_eq_true, Source.live_iff]
      exact not_or.mpr dead
    unfold State.watchReading
    split <;> simp [dead]

section Live

variable (present : r.temp = some v) (live : r.source = .liveProduct ∨ r.source = .liveAir)
include present live

theorem State.watchReading_of_held (above : (s.settings.comps.get r.comp).high < v)
    (active : (s.defrosts.get r.comp).state = .active) :
    s.watchReading r = s.modWatch r.comp fun w => { w with heldHits := satAdd 16 w.heldHits 1 } := by
  simp [State.watchReading, present, (Source.live_iff _).mpr live, classify_high above, active]

theorem State.watchReading_of_inBand (high : v ≤ (s.settings.comps.get r.comp).high)
    (low : (s.settings.comps.get r.comp).low ≤ v) : s.watchReading r = s.watchInBand r := by
  simp [State.watchReading, present, (Source.live_iff _).mpr live, classify_inBand high low]

theorem State.watchReading_of_hit
    (hit : side = .high ∧ (s.settings.comps.get r.comp).low ≤ (s.settings.comps.get r.comp).high ∧
        (s.settings.comps.get r.comp).high < v ∧ (s.defrosts.get r.comp).state ≠ .active ∨
      side = .low ∧ (s.settings.comps.get r.comp).low ≤ (s.settings.comps.get r.comp).high ∧
        v < (s.settings.comps.get r.comp).low) : s.watchReading r = s.watchHit r side v := by
  rcases hit with ⟨rfl, -, above, idle⟩ | ⟨rfl, band, below⟩
  · simp [State.watchReading, present, (Source.live_iff _).mpr live, classify_high above, idle]
  · simp [State.watchReading, present, (Source.live_iff _).mpr live, classify_low band below]

end Live

end Sys2Proof.Machine

namespace Sys2Proof.Proofs

open Sys2Proof.Machine

/-- Settles O50: a live reading is held, in band, or a hit, and each of these acts by the state of the watch. -/
theorem watchReading : Obligations.WatchReading := by
  intro r s cfg w calm watch
  refine ⟨State.watchReading_of_not_live, fun v present live => ⟨?held, ?inBand, ?hit⟩⟩
  case held => exact State.watchReading_of_held present live
  case inBand =>
    intro high low
    rw [State.watchReading_of_inBand present live high low]
    refine ⟨State.watchInBand_of_normal, State.watchInBand_of_suspect, fun busy => ?_⟩
    rw [State.watchInBand_of_busy busy]
    exact ⟨fun few => if_neg (Nat.not_le.mpr few),
      fun enough list e newest => (if_pos enough).trans (State.closeExcursion_eq newest)⟩
  case hit =>
    intro side hit
    rw [State.watchReading_of_hit present live hit]
    refine ⟨fun calm few => ?_, fun calm enough => ?_, fun busy list e newest => ?_⟩
    · exact (State.watchHit_of_calm calm).trans (if_neg (Nat.not_le.mpr few))
    · exact (State.watchHit_of_calm calm).trans ((if_pos enough).trans (State.openExcursion_eq _))
    · rw [State.watchHit_of_busy busy newest, Excursion.hit_eq]
      rfl

end Sys2Proof.Proofs
end

section
/-!
PROOF. What a reading does to the Exposure Accountant (R66 to R78) and to the Defrost Allowance (R59, R60): what each
operation of a step answers, said once, and the statement put together from them.
-/
namespace Sys2Proof.Machine

/-! ### The lots of a step (R66) -/

theorem Lot.accounting_iff (l : Lot) : l.accounting = true ↔
    (l.state = .stowed ∨ l.state = .onBoard) ∧ 0 < l.qty.onBoard + l.qty.offered := by
  simp [Lot.accounting]

theorem Lot.chargedIn_iff (c : Comp) (l : Lot) :
    l.chargedIn c = true ↔ l.accounting = true ∧ l.comp = c ∧ l.joined = true := by
  simp [Lot.chargedIn, Lot.accountingIn, and_assoc]

/-! ### Door-open seconds (R70) -/

theorem doorSeconds_eq (total mark : Word) (d : Nat) :
    let o := min ((total - mark).toNat / 1000) d
    doorSeconds total mark d =
      (o, if d < (total - mark).toNat / 1000 then total else mark + BitVec.ofNat 32 (o * 1000)) := by
  intro o
  unfold doorSeconds
  by_cases many : d < (total - mark).toNat / 1000
  · simp only [o, if_pos many, Nat.min_eq_right many.le]
  · simp only [o, if_neg many, Nat.min_eq_left (Nat.not_lt.mp many)]

/-! ### The decision on a step (R59, R60) -/

/-- A step that the pool is asked for: the defrost is ACTIVE, and the door was and is closed. -/
abbrev Allowance.asked (door : DoorState) (o : Nat) (a : Allowance) : Prop :=
  a.state = .active ∧ o = 0 ∧ door = .closed

/-- A step that is waived: the pool is asked for it and covers it. -/
abbrev Allowance.waives (door : DoorState) (d o : Nat) (a : Allowance) : Prop := a.asked door o ∧ d ≤ a.pool

/-- The allowance after a step that does or does not ask the pool, and is or is not waived (R59, R60). -/
def Allowance.afterStep (door : DoorState) (d o : Nat) (time : Time) (a : Allowance) : Allowance :=
  let asked := a.asked door o
  let waived := a.waives door d o
  { a with
    pool := if waived then a.pool - d else if asked then 0 else a.pool
    state := if asked ∧ ¬ waived then .overrun else a.state
    record := a.record.map fun k =>
      if waived then { k with
        waivedSecs := satAdd 32 k.waivedSecs d, waivedSteps := satAdd 16 k.waivedSteps 1 }
      else if a.state = .idle then k
      else { k with
        chargedSteps := satAdd 16 k.chargedSteps 1, overrunAt := if asked then some time else k.overrunAt } }

section Decision

variable {door : DoorState} {d o : Nat} {a : Allowance} (time : Time)

theorem Allowance.decide_of_waives (waives : a.waives door d o) :
    a.decide (door == .closed) d o time = (true, { a with
      pool := a.pool - d
      record := a.record.map fun k => { k with
        waivedSecs := satAdd 32 k.waivedSecs d, waivedSteps := satAdd 16 k.waivedSteps 1 } }) := by
  obtain ⟨⟨active, shut, closed⟩, covered⟩ := waives
  simp [Allowance.decide, active, shut, closed, covered]

theorem Allowance.decide_of_short (asked : a.asked door o) (short : ¬ d ≤ a.pool) :
    a.decide (door == .closed) d o time = (false, { a with
      pool := 0, state := .overrun
      record := a.record.map fun k => { k with
        chargedSteps := satAdd 16 k.chargedSteps 1, overrunAt := some time } }) := by
  obtain ⟨active, shut, closed⟩ := asked
  simp [Allowance.decide, active, shut, closed, short]

theorem Allowance.decide_of_idle (idle : a.state = .idle) : a.decide (door == .closed) d o time = (false, a) := by
  simp [Allowance.decide, idle]

theorem Allowance.decide_of_not_asked (busy : a.state ≠ .idle) (other : ¬ a.asked door o) :
    a.decide (door == .closed) d o time = (false, { a with
      record := a.record.map fun k => { k with chargedSteps := satAdd 16 k.chargedSteps 1 } }) := by
  unfold Allowance.decide
  cases state : a.state with
  | idle => exact absurd state busy
  | overrun => simp [← state]
  | active =>
    have opened : 0 < o ∨ door ≠ .closed := by
      by_contra shut
      exact other ⟨state, by omega, by tauto⟩
    rcases opened with opened | opened
    · simp [← state, opened, Nat.ne_of_gt opened]
    · simp [← state, opened]

/-- The decision on a step, as one equation over what the step asks of the pool. -/
theorem Allowance.decide_eq (door : DoorState) (d o : Nat) (a : Allowance) :
    a.decide (door == .closed) d o time = (Decidable.decide (a.waives door d o), a.afterStep door d o time) := by
  unfold Allowance.afterStep
  by_cases hwaived : a.waives door d o
  · have kept : ¬ (a.asked door o ∧ ¬ a.waives door d o) := fun h => h.2 hwaived
    rw [Allowance.decide_of_waives time hwaived]
    simp only [decide_eq_true hwaived, if_pos hwaived, if_neg kept]
  by_cases hasked : a.asked door o
  · have short : ¬ d ≤ a.pool := fun covered => hwaived ⟨hasked, covered⟩
    have busy : a.state ≠ .idle := fun idle => by simpa [idle] using hasked.1
    rw [Allowance.decide_of_short time hasked short]
    simp only [decide_eq_false hwaived, if_neg hwaived, if_pos hasked, if_pos (And.intro hasked hwaived), if_neg busy]
  have kept : ¬ (a.asked door o ∧ ¬ a.waives door d o) := fun h => hasked h.1
  simp only [decide_eq_false hwaived, if_neg hwaived, if_neg hasked, if_neg kept]
  by_cases idle : a.state = .idle
  · rw [Allowance.decide_of_idle time idle]
    simp only [if_pos idle, Option.map_id']
  · rw [Allowance.decide_of_not_asked time idle hasked]
    simp only [if_neg idle]

/-- An ACTIVE defrost enters OVERRUN exactly when the pool is asked for the step and does not cover it. -/
theorem Allowance.enters_overrun_iff :
    a.state = .active ∧ (a.afterStep door d o time).state = .overrun ↔
      a.asked door o ∧ ¬ a.waives door d o := by
  by_cases short : a.asked door o ∧ ¬ a.waives door d o
  · exact iff_of_true ⟨short.1.1, if_pos short⟩ short
  · refine iff_of_false ?_ short
    rintro ⟨active, overrun⟩
    exact absurd (active.symm.trans ((if_neg short).symm.trans overrun)) (by decide)

end Decision

section Step

variable (s : State) (r : Reading) (d o : Nat)

/-- The ports after the decision: DEFROST_OVERRUN is posted as OVERRUN is entered, with the pool and the record as they
stood before (R60). -/
def State.decidedPorts : Vector PortState 3 :=
  let a := s.defrosts.get r.comp
  let door := (s.doors.get r.comp).state
  match a.record with
  | some k =>
    if a.asked door o ∧ ¬ a.waives door d o then
      (s.post (.defrostOverrun r.comp r.time d a.pool k.grant k.waivedSecs)).ports
    else s.ports
  | none => s.ports

/-- The decision changes the compartment's allowance and posts to the ports. -/
theorem State.decideStep_eq :
    let a := s.defrosts.get r.comp
    let door := (s.doors.get r.comp).state
    s.decideStep r d o = (decide (a.waives door d o), { s with
      defrosts := modAt s.defrosts r.comp (Allowance.afterStep door d o r.time)
      ports := s.decidedPorts r d o }) := by
  unfold State.decideStep State.decidedPorts
  simp only [Allowance.decide_eq, Allowance.enters_overrun_iff]
  cases (s.defrosts.get r.comp).record with
  | none => rfl
  | some k => simp only; split <;> rfl

/-! ### The step (R68, R71) -/

/-- The door-open seconds of a step of compartment `c` (R70). -/
def State.stepDoorSeconds (c : Comp) : Nat :=
  min (((s.doors.get c).openTotal - (s.bases.get c).mark).toNat / 1000) d

/-- Whether a step of compartment `c` is waived (R59). -/
abbrev State.stepWaived (c : Comp) : Prop :=
  (s.defrosts.get c).waives (s.doors.get c).state d (s.stepDoorSeconds d c)

/-- The base of a compartment after a step of its reading (R68, R70). -/
def State.baseAfterStep : StepBase :=
  let b := s.bases.get r.comp
  let total := (s.doors.get r.comp).openTotal
  let o := s.stepDoorSeconds d r.comp
  { base := some (s.readingTime r)
    mark := if d < (total - b.mark).toNat / 1000 then total else b.mark + BitVec.ofNat 32 (o * 1000)
    last := some ⟨r.time, d, o, r.source, r.temp, decide (s.stepWaived d r.comp),
      s.lots.toList.countP fun x => x.any (Lot.chargedIn r.comp)⟩ }

/-- A lot after a step of a reading: the step is charged to it if it is accounting in the compartment and has joined
(R66, R71). -/
def State.lotAfterStep (l : Lot) : Lot :=
  if l.accounting = true ∧ l.comp = r.comp ∧ l.joined = true then
    { l with
      acct := l.acct.charge (s.settings.classes.get l.cls) r.source r.temp d (s.stepDoorSeconds d r.comp)
        (decide (s.stepWaived d r.comp)) }
  else l

/-- A step changes the allowance and the base of its compartment and the accounts of its lots, and posts to the
ports. -/
theorem State.takeStep_eq :
    let o := s.stepDoorSeconds d r.comp
    s.takeStep r d = { s with
      defrosts := modAt s.defrosts r.comp (Allowance.afterStep (s.doors.get r.comp).state d o r.time)
      ports := s.decidedPorts r d o
      lots := mapV (Option.map (s.lotAfterStep r d)) s.lots
      bases := setAt s.bases r.comp (s.baseAfterStep r d) } := by
  unfold State.lotAfterStep State.baseAfterStep
  simp only [State.takeStep, doorSeconds_eq, State.decideStep_eq, countLots_eq, Lot.chargedIn_iff]
  rfl

end Step

/-! ### The charge to one lot (R72 to R78) -/

theorem increment_eq (k : ClassCfg) (t : Int) (d o : Nat) :
    let charge (e : Int) : Int := e * (if e ≤ 0 then 0 else if e ≤ k.b1 then 1 else if e ≤ k.b2 then 2 else 4)
    let e := min (t - k.limit) 2880
    increment k t d o = (charge (max e 0) * ((d - o : Nat) : Int) + charge (max e k.floor) * (o : Int)).toNat := by
  intro charge e
  have banded : max e 0 * weight k e = charge (max e 0) := by
    by_cases warm : 0 ≤ e
    · rw [max_eq_left warm]
      rfl
    · have cold : max e 0 = 0 := max_eq_right (Int.not_le.mp warm).le
      simp [charge, cold]
  unfold increment
  simp only [excess, ← banded]
  rfl

section Charge

variable (a : Account) (source : Source) (t : Int)

theorem Account.seePeak_eq : a.seePeak source t = { a with
    peak := if (source = .liveProduct ∨ source = .liveAir) ∧ a.peak.all (fun x => x < t) = true then some t
      else a.peak } := by
  unfold Account.seePeak
  by_cases live : source.live = true
  · have named := (Source.live_iff source).mp live
    obtain ⟨_, _, _, _, _, _, _, _, peak, _, _, _⟩ := a
    cases peak with
    | none => simp [live, named]
    | some x => by_cases higher : x < t <;> simp [live, named, higher]
  · have named := mt (Source.live_iff source).mpr live
    simp [live, named]

theorem Account.track_eq (k : ClassCfg) : a.track k t = { a with
    warm := if a.warm = true then decide (k.limit < t) else decide (k.shock ≤ t)
    shocks := if a.warm = true ∧ t ≤ k.limit then satAdd 8 a.shocks 1 else a.shocks } := by
  unfold Account.track
  obtain ⟨_, _, _, _, warm, _, _, _, _, _, _, _⟩ := a
  cases warm with
  | true => by_cases cooled : t ≤ k.limit <;> simp [cooled, ← Int.not_le]
  | false => by_cases shocked : k.shock ≤ t <;> simp [shocked]

/-- A step at a temperature adds the increment to the dose or, where it is waived, to the waived dose, counts the
seconds, and moves the peak and the tracker. -/
theorem Account.charge_some (k : ClassCfg) (d o : Nat) (waived : Prop) [Decidable waived] :
    let gain := increment k t d o
    a.charge k source (some t) d o (Decidable.decide waived) = { a with
      dose := if waived then a.dose else satAdd 32 a.dose gain
      waived := if waived then satAdd 32 a.waived gain else a.waived
      saturated := a.saturated || Decidable.decide (2 ^ 32 ≤ if waived then a.waived + gain else a.dose + gain)
      doorSecs := satAdd 32 a.doorSecs o
      unverified := if source = .held ∨ source = .blind then satAdd 32 a.unverified d else a.unverified
      airSecs := if source = .liveAir then satAdd 32 a.airSecs d else a.airSecs
      peak := if (source = .liveProduct ∨ source = .liveAir) ∧ a.peak.all (fun x => x < t) = true then some t
        else a.peak
      warm := if a.warm = true then decide (k.limit < t) else decide (k.shock ≤ t)
      shocks := if a.warm = true ∧ t ≤ k.limit then satAdd 8 a.shocks 1 else a.shocks } := by
  intro gain
  simp only [Account.charge, Account.track_eq, Account.seePeak_eq, Account.countStep, Account.addDose]
  by_cases granted : waived <;> simp [granted, gain]

end Charge

/-! ### A reading (R68, R69) -/

variable (s : State) (r : Reading)

theorem State.accountReading_of_step {d : Nat} (stepped : r.step = some d) :
    s.accountReading r = (s.takeStep r d).joinLots r.comp := by
  simp only [State.accountReading, stepped]

theorem State.accountReading_of_no_step (unstepped : r.step = none) :
    s.accountReading r = (s.takeUnstepped r).joinLots r.comp := by
  simp only [State.accountReading, unstepped]

theorem State.readingTime_eq : s.readingTime r = r.time + (match s.scanner.scan with
    | some x => x.shift
    | none => 0) := by
  unfold State.readingTime
  cases s.scanner.scan with
  | none => exact (BitVec.add_zero _).symm
  | some x => rfl

/-- A table of entries changed by nothing. -/
theorem mapV_optionMap_id {α : Type} {n : Nat} (v : Vector (Option α) n) : mapV (Option.map fun x => x) v = v :=
  table_ext fun i => by simp

/-- Without a step length the time since the base, if there is one, is unverified, and base and mark are set (R69). -/
theorem State.takeUnstepped_eq :
    let now := s.readingTime r
    s.takeUnstepped r = { s with
      lots := mapV (Option.map fun l : Lot =>
        if l.accounting = true ∧ l.comp = r.comp ∧ l.joined = true then match (s.bases.get r.comp).base with
          | some b => { l with acct := { l.acct with unverified := satAdd 32 l.acct.unverified (span b now) } }
          | none => l
        else l) s.lots
      bases := modAt s.bases r.comp fun b =>
        { b with base := some now, mark := (s.doors.get r.comp).openTotal } } := by
  unfold State.takeUnstepped
  simp only [Lot.chargedIn_iff]
  cases (s.bases.get r.comp).base with
  | some b => rfl
  | none =>
    simp only [ite_self, mapV_optionMap_id]
    rfl

/-! ### What a step leaves (R59, R60, R70 to R78) -/

section Step

variable (d : Nat)

theorem State.takeStep_frame : s.takeStep r d = { s with
    defrosts := (s.takeStep r d).defrosts, bases := (s.takeStep r d).bases, lots := (s.takeStep r d).lots
    ports := (s.takeStep r d).ports } := by
  rw [State.takeStep_eq]

theorem State.takeStep_ports : (s.takeStep r d).ports = s.decidedPorts r d (s.stepDoorSeconds d r.comp) := by
  rw [State.takeStep_eq]

theorem State.takeStep_allowance : (s.takeStep r d).defrosts.get r.comp =
    (s.defrosts.get r.comp).afterStep (s.doors.get r.comp).state d (s.stepDoorSeconds d r.comp) r.time := by
  rw [State.takeStep_eq]
  simp

theorem State.takeStep_base : (s.takeStep r d).bases.get r.comp = s.baseAfterStep r d := by
  rw [State.takeStep_eq]
  simp

theorem State.takeStep_other {c : Comp} (other : c ≠ r.comp) :
    (s.takeStep r d).defrosts.get c = s.defrosts.get c ∧ (s.takeStep r d).bases.get c = s.bases.get c := by
  rw [State.takeStep_eq]
  simp [other]

theorem State.takeStep_lot (i : Slot) :
    (s.takeStep r d).lots.get i = (s.lots.get i).map (s.lotAfterStep r d) := by
  rw [State.takeStep_eq]
  simp

end Step

end Sys2Proof.Machine

namespace Sys2Proof.Proofs

open Sys2Proof.Machine

/-- Settles O51: a reading takes its step or closes the time since the base, and the lots join; a step is decided by
the pool, and charges each lot by its class. -/
theorem exposureStep : Obligations.ExposureStep := by
  refine ⟨Lot.accounting_iff, fun r s => ⟨fun d stepped => ?_, fun unstepped => ?_, fun d => ?_⟩, fun r d s => ?_⟩
  · exact s.accountReading_of_step r stepped
  · rw [s.accountReading_of_no_step r unstepped, State.takeUnstepped_eq, State.readingTime_eq]
    rfl
  · exact (congrArg StepBase.base (s.takeStep_base r d)).trans (congrArg some (s.readingTime_eq r))
  · intro t b a total o quiet waived
    have allowance := s.takeStep_allowance r d
    have base := s.takeStep_base r d
    refine ⟨congrArg Allowance.pool allowance, congrArg Allowance.state allowance, congrArg StepBase.mark base,
      congrArg StepBase.last base, congrArg Allowance.record allowance, s.takeStep_frame r d,
      fun c other => s.takeStep_other r d other, (congrArg Allowance.refill allowance :),
      (congrArg Allowance.lastAsk allowance :), fun i free => ?_, s.takeStep_ports r d, fun i l stored => ?_⟩
    · simpa [free] using s.takeStep_lot r d i
    · refine (s.takeStep_lot r d i).trans ?_
      rw [stored]
      refine congrArg some (if_congr Iff.rfl ?_ rfl)
      cases r.temp with
      | none => rfl
      | some temp =>
        simp only [Account.charge_some, increment_eq]
        by_cases granted : s.stepWaived d r.comp
        · simp only [if_pos granted, if_pos (show waived from granted)]
          rfl
        · simp only [if_neg granted, if_neg (show ¬ waived from granted)]
          rfl

end Sys2Proof.Proofs
end

section
/-!
PROOF. The assessor (R147 to R150): what the verdict is in each case of R149, what applying it changes, on which claim
an assessment starts, and the statement put together from them.
-/
namespace Sys2Proof.Machine

/-! ### The verdict (R149) -/

section Verdict

variable {a : Assessment}

theorem Assessment.harm_iff (a : Assessment) (x : Account) :
    a.harm x = true ↔ a.doseLimit ≤ x.dose / 960 ∨ a.shockLimit ≤ x.shocks := by
  simp only [Assessment.harm, Bool.or_eq_true, decide_eq_true_eq]
  rfl

theorem Assessment.verdict_of_idMismatch (mismatch : a.e = some .idMismatch) :
    a.verdict = (.referred, some .identity) := by
  simp [Assessment.verdict, mismatch]

theorem Assessment.verdict_of_copyMismatch (mismatch : a.e = some .copyMismatch) :
    a.verdict = (.referred, some .copy) := by
  simp [Assessment.verdict, mismatch]

theorem Assessment.verdict_of_unreliable (sound : a.e = none)
    (unreliable : a.snap.saturated = true ∨ a.unverifiedLimit < a.figures.unverified) :
    a.verdict = (.referred, some .record) := by
  simp only [Assessment.verdict, sound, if_pos unreliable]

/-- Without an E indicator and with a reliable record, harm at the handoff and at dispatch decides. -/
theorem Assessment.verdict_of_reliable (sound : a.e = none)
    (reliable : ¬ (a.snap.saturated = true ∨ a.unverifiedLimit < a.figures.unverified)) :
    a.verdict = if a.harm a.snap then if a.harm a.dispatchSnap then (.upheldDepot, none) else (.upheldCarrier, none)
      else (.rejected, none) := by
  simp only [Assessment.verdict, sound, if_neg reliable]

end Verdict

/-! ### Applying a verdict (R150) -/

section Completion

variable {s : State} {a : Assessment}

theorem State.modOpenClaims_of_handoff {j : HIndex} {h : Handoff} (found : s.handoffs.get j = some h)
    (f : Nat → Nat) :
    s.modOpenClaims j f = s.modLot h.slot fun l => { l with openClaims := f l.openClaims } := by
  simp [State.modOpenClaims, found]

theorem State.applyVerdict_of_named {c : Claim} {h : Handoff} (held : a.claim = some c.number)
    (named : s.claimNamed c.number = some c) (found : s.handoffs.get c.handoff = some h) :
    s.applyVerdict a = State.post
      ((s.modClaim c.number (Claim.decide s.seconds a)).modLot h.slot fun l =>
        { l with openClaims := l.openClaims - 1 })
      (.claimDecided c.number c.handoff c.lot a.verdict.1 a.verdict.2) := by
  simp only [State.applyVerdict, held, Option.bind_some, named]
  exact congrArg (State.post · _) (State.modOpenClaims_of_handoff (s := s.modClaim _ _) found _)

theorem exec_assessmentCompletion (s : State) : exec .assessmentCompletion s = .next (assessmentCompletion s) := rfl

theorem assessmentCompletion_of_discard (ready : s.phase = .ready) (busy : s.assessor = some a)
    (mark : a.discard = true) : assessmentCompletion s = State.startAssessor { s with assessor := none } := by
  simp [assessmentCompletion, ready, busy, mark]

theorem assessmentCompletion_of_clear (ready : s.phase = .ready) (busy : s.assessor = some a)
    (clear : a.discard = false) :
    assessmentCompletion s = State.startAssessor { s.applyVerdict a with assessor := none } := by
  simp [assessmentCompletion, ready, busy, clear]

end Completion

/-! ### The start of an assessment (R147, R148) -/

section Start

variable {s : State} {before after : List Claim} {c : Claim}

theorem State.startAssessor_of_busy (busy : s.assessor ≠ none) : s.startAssessor = s := by
  obtain ⟨a, busy⟩ := Option.ne_none_iff_exists'.mp busy
  simp [State.startAssessor, busy]

theorem State.startAssessor_of_no_lodged (unlodged : ∀ c ∈ s.claims, c.state ≠ .lodged) :
    s.startAssessor = s := by
  have absent : s.claims.find? (fun c => c.state == .lodged) = none := by simpa using unlodged
  simp [State.startAssessor, absent]

theorem State.startAssessor_of_evidence {a : Assessment} (idle : s.assessor = none)
    (first : s.claims.find? (fun c => c.state == .lodged) = some c) (copies : s.evidence c = some a) :
    s.startAssessor = { s.modClaim c.number fun c => { c with state := .assessing } with assessor := some a } := by
  simp only [State.startAssessor, idle, first, copies]

theorem find_first_lodged (earlier : ∀ x ∈ before, x.state ≠ .lodged) (lodged : c.state = .lodged) :
    (before ++ c :: after).find? (fun x => x.state == .lodged) = some c := by
  have skipped : before.find? (fun x => x.state == .lodged) = none := by simpa using earlier
  simp [List.find?_append, skipped, lodged]

/-- A change of the claims with the number of `c` is a change of `c` alone where no other claim has its number. -/
theorem map_number_eq (others : ∀ x ∈ before ++ after, x.number ≠ c.number) (f : Claim → Claim) :
    (before ++ c :: after).map (fun x => if x.number = c.number then f x else x) = before ++ f c :: after := by
  have keeps (l : List Claim) (other : ∀ x ∈ l, x.number ≠ c.number) :
      l.map (fun x => if x.number = c.number then f x else x) = l :=
    (List.map_congr_left fun x hx => if_neg (other x hx)).trans (List.map_id l)
  obtain ⟨earlier, later⟩ := List.forall_mem_append.mp others
  simp [keeps before earlier, keeps after later]

theorem State.evidence_eq {h : Handoff} {l : Lot} {snap : Account} {r : DispatchReceipt}
    (handoff : s.handoffs.get c.handoff = some h) (lot : s.lots.get h.slot = some l) (taken : h.snap = some snap)
    (dispatched : l.dispatched = some r) : s.evidence c = some
      { claim := some c.number, start := s.seconds, discard := false, snap := snap, a := h.a, e := h.e, c := h.c
        accepted := h.accepted, dispatchSnap := r.snap, doseLimit := (s.settings.classes.get l.cls).doseLimit
        shockLimit := (s.settings.classes.get l.cls).shockLimit
        unverifiedLimit := (s.settings.classes.get l.cls).unverifiedLimit } := by
  simp [State.evidence, handoff, lot, taken, dispatched]

end Start

end Sys2Proof.Machine

namespace Sys2Proof.Proofs

open Sys2Proof.Machine

/-- Settles O46: an assessment with its mark set is dropped, and one with its mark clear decides its claim by R149; an
IDLE assessor starts on the LODGED claim that comes first. -/
theorem assessor : Obligations.Assessor := by
  refine ⟨fun a s ready busy => ⟨fun mark => ?discards, ?decides⟩,
    fun s => ⟨fun stays => ?stays, fun before after c h l snap r idle split earlier lodged others handoff lot taken
      dispatched => ?starts⟩⟩
  case discards =>
    rw [exec_assessmentCompletion, assessmentCompletion_of_discard ready busy mark]
  case decides =>
    intro c h clear held named found harm unverified verdict
    have ruling : a.verdict = verdict := by
      simp only [verdict]
      split
      next mismatch => exact Assessment.verdict_of_idMismatch mismatch
      next mismatch => exact Assessment.verdict_of_copyMismatch mismatch
      next sound =>
        split
        next unreliable => exact Assessment.verdict_of_unreliable sound unreliable
        next reliable =>
          rw [Assessment.verdict_of_reliable sound reliable]
          simp only [Assessment.harm_iff, harm, ite_not]
    rw [exec_assessmentCompletion, assessmentCompletion_of_clear ready busy clear,
      State.applyVerdict_of_named held named found, ← ruling]
    rfl
  case stays =>
    exact stays.elim State.startAssessor_of_busy State.startAssessor_of_no_lodged
  case starts =>
    have first : s.claims.find? (fun x => x.state == .lodged) = some c := split ▸ find_first_lodged earlier lodged
    rw [State.startAssessor_of_evidence idle first (State.evidence_eq handoff lot taken dispatched), State.modClaim,
      split, map_number_eq others]

end Sys2Proof.Proofs
end

section
/-!
PROOF. A request is a command with a frame of its own (R183), and it does what taking that frame does with the rule of
its chapter (R161, R162): the one place where the arms of exec and serve for requests are read.
-/
namespace Sys2Proof.Machine

/-- The rule under which a taken request acts; a command that is no request has none. -/
def ruleOf : Instr → State → Reply
  | .portStatus p _ => actPortStatus p
  | .countersClear p _ => actCountersClear p
  | .noticeEnable p _ v => actNoticeEnable p v
  | .scanBid p _ n => actScanBid p n
  | .clockGet _ _ => actClockGet
  | .clockSet _ _ n => actClockSet n
  | .settingsGet _ _ g i => actSettingsGet g i
  | .settingsPut p _ g i entry => actSettingsPut p g i entry
  | .restart _ _ => actRestart
  | .compartmentStatus _ _ c => actCompartmentStatus c
  | .probeStatus _ _ i => actProbeStatus i
  | .probeClear _ _ i => actProbeClear i
  | .watchRearm _ _ c => actWatchRearm c
  | .doorStatus _ _ d => actDoorStatus d
  | .doorRearm _ _ d => actDoorRearm d
  | .defrostStatus _ _ c => actDefrostStatus c
  | .defrostAsk _ _ c => actDefrostAsk c
  | .defrostEnd _ _ c => actDefrostEnd c
  | .lotLoad _ _ lot k c q => actLotLoad lot k c q
  | .lotMove _ _ lot c => actLotMove lot c
  | .lotWriteOff _ _ lot q => actLotWriteOff lot q
  | .lotRetire _ _ lot force => actLotRetire lot force
  | .lotStatus _ _ lot part => actLotStatus lot part
  | .lotList _ _ first => actLotList first
  | .reportLot p _ lot page => actReportLot p lot page
  | .routeBegin _ _ n => actRouteBegin n
  | .stopLoad _ _ n x m b l planned => actStopLoad n x m b l planned
  | .dispatch _ _ => actDispatch
  | .vanReturn _ _ => actVanReturn
  | .stopOpen _ _ n => actStopOpen n
  | .stopClose _ _ => actStopClose
  | .stopStatus _ _ n => actStopStatus n
  | .handoffOffer _ _ lot q => actHandoffOffer lot q
  | .handoffAccept _ _ i code a cond => actHandoffAccept i code a cond
  | .handoffCopied _ _ i v => actHandoffCopied i v
  | .handoffWithdraw _ _ i => actHandoffWithdraw i
  | .handoffStatus _ _ i => actHandoffStatus i
  | .claimLodge _ _ i code q => actClaimLodge i code q
  | .claimWithdraw _ _ n => actClaimWithdraw n
  | .claimFetch _ _ n => actClaimFetch n
  | .claimClear _ _ n => actClaimClear n
  | .claimList _ _ => actClaimList
  | _ => reply .ok

/-- What an event does; a request, and a byte that completes a frame, act through the request handling instead. -/
def eventOf : Instr → State → State
  | .storeWriteCompletion => storeWriteCompletion
  | .restartStart => restartStart
  | .powerUp => powerUp
  | .rstnReset => rstnReset
  | .mainPowerLoss => mainPowerLoss
  | .startReady => startReady
  | .refillExpiry c => refillExpiry c
  | .compositionCompletion => compositionCompletion
  | .discardTimerExpiry => discardTimerExpiry
  | .stopTimerExpiry => stopTimerExpiry
  | .ackTimerExpiry j => ackTimerExpiry j
  | .assessmentCompletion => assessmentCompletion
  | .scanStart => scanStart
  | .probeReadCompletion i answer => probeReadCompletion i answer
  | .probeInvalidAnswer i => probeInvalidAnswer i
  | .readTimeout i => readTimeout i
  | .scanCompletion watchFirst => scanCompletion watchFirst
  | .doorInputLevel d high => doorInputLevel d high
  | .acceptedChange d => acceptedChange d
  | .heldLimitReached d => heldLimitReached d
  | .stopDoorSecond d => stopDoorSecond d
  | .interByteTimeout p => interByteTimeout p
  | .frameDiscarded p => frameDiscarded p
  | .undefinedRequest p kind tag => undefinedRequest p kind tag
  | .responseSent p => responseSent p
  | .portSettingsEffect p => portSettingsEffect p
  | .noticeSend p => noticeSend p
  | .portBreak p => portBreak p
  | .breakEnd p => breakEnd p
  | .secondsCountAdvance => State.advanceSecond
  | .backupSupplyLoss => backupSupplyLoss
  | .noticeFrameEnd p => noticeFrameEnd p
  | _ => id

/-- Every command is a request, with a frame, a received byte, or an event. -/
theorem command_kinds (c : Instr) :
    (∃ p kind tag body, encodeRequest c = some (p, kind, tag, body)) ∨
    (∃ p b framingError, c = .byteReceived p b framingError) ∨
    (encodeRequest c = none ∧ ∀ s, exec c s = .next (eventOf c s)) := by
  cases c
  case byteReceived p b framingError => exact .inr (.inl ⟨p, b, framingError, rfl⟩)
  all_goals first
    | exact .inl ⟨_, _, _, _, rfl⟩
    | exact .inr (.inr ⟨rfl, fun _ => rfl⟩)

/-- A request is taken with its own KIND and TAG, and acts under its own rule. -/
theorem exec_request {c : Instr} {p : Port} {kind tag : Byte} {body : List Byte}
    (request : encodeRequest c = some (p, kind, tag, body)) (s : State) :
    exec c s = .next (takeRequest p kind tag (ruleOf c) s) := by
  cases c <;> cases request <;> rfl

/-- Serving a request is executing it. -/
theorem serve_request {c : Instr} {p : Port} {kind tag : Byte} {body : List Byte}
    (request : encodeRequest c = some (p, kind, tag, body)) (s : State) : serve c s = exec c s := by
  cases c <;> cases request <;> rfl

/-- A command that is no request is not served. -/
theorem serve_other {c : Instr} (other : encodeRequest c = none) (s : State) : serve c s = .next s := by
  cases c <;> cases other <;> rfl

/-- The KIND of a request is a defined code, and its response adds 0x80 to it (R162, R183). -/
theorem request_kind {c : Instr} {p : Port} {kind tag : Byte} {body : List Byte}
    (request : encodeRequest c = some (p, kind, tag, body)) :
    definedKind kind = true ∧ answerKind kind = kind + 0x80 := by
  cases c <;> cases request <;> decide

end Sys2Proof.Machine
end

section
/-!
PROOF. What each operation leaves alone. An aspect is a field of the state, or a part of one that a law reads; every
operation is given once with the list of the aspects that it may change, and keeps all others.
-/
namespace Sys2Proof.Machine

/-! ### Aspects of a state -/

/-- What a port holds of notices and of its response lies within the capacities (R163, R175). -/
def PortState.fits (ps : PortState) : Prop :=
  ps.urgent.length ≤ 8 ∧ ps.routine.length ≤ 16 ∧ ps.request.all Response.fits = true

/-- What the laws read of a lot. -/
def Lot.goods (l : Lot) : Word × Quantities × List HIndex := (l.number, l.qty, l.handoffs)

/-- What the laws read of a stop. -/
def Stop.keys (st : Stop) : StopState × List HIndex × List (Word × Nat) := (st.state, st.offers, st.planned)

/-- What the law of the OPEN stop reads of a handoff. -/
def Handoff.keys (h : Handoff) : HandoffState × StopNo := (h.state, h.stop)

/-- The fields of a state, and after them the parts of fields that the laws read. -/
inductive Aspect where
  | pending | phase | settings | store | storeWrite | defaulted | restartTaken | restartDue | marker | seconds | subMs
  | clockUnset | scanner | probes | comps | watches | doors | defrosts | bases | lots | route | stops | handoffs
  | claims | nextClaim | assessor | ports | report | draws
  | bids | fits | period | rings | lawful | lists | pools | goods | stopKeys | handKeys | reportSize
  deriving DecidableEq

/-- State `t` has an aspect as `s` has it. Of the rings, the watches, the queues and the report only the law is asked
for, and of the pools that none has grown. -/
def Aspect.kept (s t : State) : Aspect → Prop
  | .pending => t.pending = s.pending
  | .phase => t.phase = s.phase
  | .settings => t.settings = s.settings
  | .store => t.store = s.store
  | .storeWrite => t.storeWrite = s.storeWrite
  | .defaulted => t.defaulted = s.defaulted
  | .restartTaken => t.restartTaken = s.restartTaken
  | .restartDue => t.restartDue = s.restartDue
  | .marker => t.marker = s.marker
  | .seconds => t.seconds = s.seconds
  | .subMs => t.subMs = s.subMs
  | .clockUnset => t.clockUnset = s.clockUnset
  | .scanner => t.scanner = s.scanner
  | .probes => t.probes = s.probes
  | .comps => t.comps = s.comps
  | .watches => t.watches = s.watches
  | .doors => t.doors = s.doors
  | .defrosts => t.defrosts = s.defrosts
  | .bases => t.bases = s.bases
  | .lots => t.lots = s.lots
  | .route => t.route = s.route
  | .stops => t.stops = s.stops
  | .handoffs => t.handoffs = s.handoffs
  | .claims => t.claims = s.claims
  | .nextClaim => t.nextClaim = s.nextClaim
  | .assessor => t.assessor = s.assessor
  | .ports => t.ports = s.ports
  | .report => t.report = s.report
  | .draws => t.draws = s.draws
  | .bids => ∀ p : Port, (t.ports.get p).bid = (s.ports.get p).bid
  | .fits => ∀ p : Port, (s.ports.get p).fits → (t.ports.get p).fits
  | .period => t.scanner.period = s.scanner.period
  | .rings => ∀ i : Probe, (s.probes.get i).ring.length ≤ 4 → (t.probes.get i).ring.length ≤ 4
  | .lawful => (∀ c : Comp, (s.watches.get c).lawful) → ∀ c : Comp, (t.watches.get c).lawful
  | .lists => ∀ c : Comp, (s.watches.get c).list.length ≤ 8 → (t.watches.get c).list.length ≤ 8
  | .pools => ∀ c : Comp, (t.defrosts.get c).pool ≤ (s.defrosts.get c).pool
  | .goods => ∀ i : Slot, (t.lots.get i).map Lot.goods = (s.lots.get i).map Lot.goods
  | .stopKeys => ∀ n : StopNo, (t.stops.get n).map Stop.keys = (s.stops.get n).map Stop.keys
  | .handKeys => ∀ j : HIndex, (t.handoffs.get j).map Handoff.keys = (s.handoffs.get j).map Handoff.keys
  | .reportSize => s.report.all (fun r => decide (r.handoffs.length ≤ 16)) = true →
      t.report.all (fun r => decide (r.handoffs.length ≤ 16)) = true

/-- State `t` has every aspect as `s` has it but for those listed. -/
def keeps (changed : List Aspect) (s t : State) : Prop := ∀ x : Aspect, x ∉ changed → x.kept s t

section Keeps

variable {xs ys : List Aspect} {s t u : State}

theorem keeps.refl (xs : List Aspect) (s : State) : keeps xs s s := by
  intro x _
  cases x <;> simp [Aspect.kept]

theorem keeps.trans (first : keeps xs s t) (second : keeps xs t u) : keeps xs s u := by
  intro x hx
  have h1 := first x hx
  have h2 := second x hx
  cases x <;> simp only [Aspect.kept] at h1 h2 ⊢
  case rings | lists | fits => exact fun i h => h2 i (h1 i h)
  case lawful | reportSize => exact fun h => h2 (h1 h)
  case pools => exact fun c => (h2 c).trans (h1 c)
  case bids | goods | stopKeys | handKeys => exact fun i => (h2 i).trans (h1 i)
  all_goals exact h2.trans h1

theorem keeps.mono (h : keeps xs s t) (sub : ∀ x ∈ xs, x ∈ ys) : keeps ys s t :=
  fun x hx => h x fun hm => hx (sub x hm)

/-- Two changes one after the other, each within the list. -/
theorem keeps.andThen {zs : List Aspect} (first : keeps xs s t) (second : keeps ys t u)
    (sub : (∀ x ∈ xs, x ∈ zs) ∧ ∀ x ∈ ys, x ∈ zs) : keeps zs s u :=
  (first.mono sub.1).trans (second.mono sub.2)

/-- What one operation keeps, a list of such operations keeps. -/
theorem keeps.foldl {α : Type} {f : State → α → State} (h : ∀ s a, keeps xs s (f s a)) (as : List α) (s : State) :
    keeps xs s (as.foldl f s) := by
  induction as generalizing s with
  | nil => exact keeps.refl xs s
  | cons a as ih => exact (h s a).trans (ih (f s a))

theorem keeps.iterate {f : State → State} (h : ∀ s, keeps xs s (f s)) (n : Nat) (s : State) :
    keeps xs s (f^[n] s) := by
  induction n generalizing s with
  | zero => exact keeps.refl xs s
  | succ n ih => exact (h s).trans (ih (f s))

end Keeps

/-! ### Changes of one field -/

section Fields

variable (s : State)

/-- A change of one port that keeps its bid, and what it holds within the capacities. -/
theorem modPort_keeps_at (p : Port) {f : PortState → PortState} (bid : (f (s.ports.get p)).bid = (s.ports.get p).bid)
    (fits : (s.ports.get p).fits → (f (s.ports.get p)).fits) : keeps [.ports] s (s.modPort p f) := by
  intro x hx
  cases x <;> simp only [Aspect.kept, State.modPort_ports, get_modAt] at hx ⊢ <;> simp at hx ⊢
  case bids =>
    intro q
    split
    · next e => rw [e]; exact bid
    · rfl
  case fits =>
    intro q h
    split
    · next e => rw [e] at h ⊢; exact fits h
    · exact h

theorem modPort_keeps (p : Port) {f : PortState → PortState} (bid : ∀ ps, (f ps).bid = ps.bid)
    (fits : ∀ ps : PortState, ps.fits → (f ps).fits) : keeps [.ports] s (s.modPort p f) :=
  modPort_keeps_at s p (bid _) (fits _)

theorem post_keeps (b : NoticeBody) : keeps [.ports] s (s.post b) := by
  intro x hx
  cases x <;> simp [Aspect.kept] at hx ⊢
  case bids => intro p; rw [enqueue_frame]
  case fits =>
    intro p h
    obtain ⟨hu, hr, hreq⟩ := h
    obtain ⟨hu, hr⟩ := enqueue_capacity ⟨b, s.seconds⟩ _ hu hr
    exact ⟨hu, hr, by rw [enqueue_frame]; exact hreq⟩

theorem postTo_keeps (p : Port) (b : NoticeBody) : keeps [.ports] s (s.postTo p b) := by
  refine modPort_keeps s p (fun ps => by rw [enqueue_frame]) fun ps h => ?_
  obtain ⟨hu, hr, hreq⟩ := h
  obtain ⟨hu, hr⟩ := enqueue_capacity ⟨b, s.seconds⟩ _ hu hr
  exact ⟨hu, hr, by rw [enqueue_frame]; exact hreq⟩

theorem modDoor_keeps (d : Comp) (f : Door → Door) : keeps [.doors] s (s.modDoor d f) := by
  intro x hx
  cases x <;> simp [Aspect.kept] at hx ⊢

theorem modWatch_keeps (c : Comp) {f : Watch → Watch} (lawful : ∀ w : Watch, w.lawful → (f w).lawful)
    (list : ∀ w : Watch, w.list.length ≤ 8 → (f w).list.length ≤ 8) : keeps [.watches] s (s.modWatch c f) := by
  intro x hx
  cases x <;> simp only [Aspect.kept, State.modWatch_watches, get_modAt] at hx ⊢
  case watches => simp at hx
  case lawful =>
    intro h d
    split
    · exact lawful _ (h d)
    · exact h d
  case lists => intro d h; split <;> simp [h, list]
  all_goals simp

theorem modDefrost_keeps (c : Comp) {f : Allowance → Allowance} (pool : ∀ a, (f a).pool ≤ a.pool) :
    keeps [.defrosts] s (s.modDefrost c f) := by
  intro x hx
  cases x <;> simp [Aspect.kept] at hx ⊢
  case pools => intro d; split <;> simp [pool]

theorem modBase_keeps (c : Comp) (f : StepBase → StepBase) : keeps [.bases] s (s.modBase c f) := by
  intro x hx
  cases x <;> simp [Aspect.kept] at hx ⊢

theorem modProbe_keeps (i : Probe) {f : ProbeState → ProbeState}
    (ring : ∀ st : ProbeState, st.ring.length ≤ 4 → (f st).ring.length ≤ 4) :
    keeps [.probes] s (s.modProbe i f) := by
  intro x hx
  cases x <;> simp [Aspect.kept] at hx ⊢
  case rings => intro k h; split <;> simp [h, ring]

theorem modLot_keeps (i : Slot) {f : Lot → Lot} (goods : ∀ l, (f l).goods = l.goods) :
    keeps [.lots] s (s.modLot i f) := by
  intro x hx
  cases x <;> simp [Aspect.kept] at hx ⊢
  case goods => intro k; split <;> simp [Function.comp_def, goods]

theorem modLot_keeps_goods (i : Slot) (f : Lot → Lot) : keeps [.lots, .goods] s (s.modLot i f) := by
  intro x hx
  cases x <;> simp [Aspect.kept] at hx ⊢

theorem mapLots_keeps {f : Lot → Lot} (goods : ∀ l, (f l).goods = l.goods) : keeps [.lots] s (s.mapLots f) := by
  intro x hx
  cases x <;> simp [Aspect.kept] at hx ⊢
  case goods => intro i; simp [Function.comp_def, goods]

theorem modHandoff_keeps (j : HIndex) {f : Handoff → Handoff} (keys : ∀ h, (f h).keys = h.keys) :
    keeps [.handoffs] s (s.modHandoff j f) := by
  intro x hx
  cases x <;> simp [Aspect.kept] at hx ⊢
  case handKeys => intro k; split <;> simp [Function.comp_def, keys]

theorem modHandoff_keeps_keys (j : HIndex) (f : Handoff → Handoff) :
    keeps [.handoffs, .handKeys] s (s.modHandoff j f) := by
  intro x hx
  cases x <;> simp [Aspect.kept] at hx ⊢

theorem modStop_keeps (n : StopNo) {f : Stop → Stop} (keys : ∀ st, (f st).keys = st.keys) :
    keeps [.stops] s (s.modStop n f) := by
  intro x hx
  cases x <;> simp [Aspect.kept] at hx ⊢
  case stopKeys => intro k; split <;> simp [Function.comp_def, keys]

theorem modStop_keeps_keys (n : StopNo) (f : Stop → Stop) : keeps [.stops, .stopKeys] s (s.modStop n f) := by
  intro x hx
  cases x <;> simp [Aspect.kept] at hx ⊢

theorem modClaim_keeps (n : Nat) (f : Claim → Claim) : keeps [.claims] s (s.modClaim n f) := by
  intro x hx
  cases x <;> simp [Aspect.kept] at hx ⊢

end Fields

end Sys2Proof.Machine
end

section
/-!
PROOF. What the operations of each chapter keep, each from what the operations under it keep.
-/
namespace Sys2Proof.Machine

variable (s : State)

/-! ### Fields set as a whole -/

theorem setLots_keeps (v : Vector (Option Lot) 64) : keeps [.lots, .goods] s { s with lots := v } := by
  intro x hx
  cases x <;> simp [Aspect.kept] at hx ⊢

theorem setStops_keeps (v : Vector (Option Stop) 32) : keeps [.stops, .stopKeys] s { s with stops := v } := by
  intro x hx
  cases x <;> simp [Aspect.kept] at hx ⊢

theorem setRoute_keeps (r : Route) : keeps [.route] s { s with route := r } := by
  intro x hx
  cases x <;> simp [Aspect.kept] at hx ⊢

theorem setDoors_keeps (v : Vector Door 4) : keeps [.doors] s { s with doors := v } := by
  intro x hx
  cases x <;> simp [Aspect.kept] at hx ⊢

theorem setComps_keeps (v : Vector CompScan 4) : keeps [.comps] s { s with comps := v } := by
  intro x hx
  cases x <;> simp [Aspect.kept] at hx ⊢

theorem setClaims_keeps (l : List Claim) : keeps [.claims] s { s with claims := l } := by
  intro x hx
  cases x <;> simp [Aspect.kept] at hx ⊢

theorem setAssessor_keeps (a : Option Assessment) : keeps [.assessor] s { s with assessor := a } := by
  intro x hx
  cases x <;> simp [Aspect.kept] at hx ⊢

theorem setScanner_keeps (x : Scanner) (period : x.period = s.scanner.period) :
    keeps [.scanner] s { s with scanner := x } := by
  intro x hx
  cases x <;> simp [Aspect.kept] at hx ⊢
  case period => exact period

theorem setScanner_keeps_all (x : Scanner) : keeps [.scanner, .period] s { s with scanner := x } := by
  intro x hx
  cases x <;> simp [Aspect.kept] at hx ⊢

theorem setDefrosts_keeps (v : Vector Allowance 4) (pool : ∀ c : Comp, (v.get c).pool ≤ (s.defrosts.get c).pool) :
    keeps [.defrosts] s { s with defrosts := v } := by
  intro x hx
  cases x <;> simp [Aspect.kept] at hx ⊢
  case pools => exact pool

theorem setPorts_keeps (v : Vector PortState 3) (bid : ∀ p : Port, (v.get p).bid = (s.ports.get p).bid)
    (fits : ∀ p : Port, (s.ports.get p).fits → (v.get p).fits) : keeps [.ports] s { s with ports := v } := by
  intro x hx
  cases x <;> simp [Aspect.kept] at hx ⊢
  case bids => exact bid
  case fits => exact fits

theorem setReport_keeps (r : Option Report)
    (size : s.report.all (fun r => decide (r.handoffs.length ≤ 16)) = true →
      r.all (fun r => decide (r.handoffs.length ≤ 16)) = true) : keeps [.report] s { s with report := r } := by
  intro x hx
  cases x <;> simp only [Aspect.kept] at hx ⊢ <;> simp at hx ⊢
  case reportSize => simpa using size

theorem setRestartDue_keeps (b : Bool) : keeps [.restartDue] s { s with restartDue := b } := by
  intro x hx
  cases x <;> simp [Aspect.kept] at hx ⊢

/-! ### The shared operations (Machine/Ops.lean) -/

theorem recomputePeriod_keeps : keeps [.scanner, .period] s s.recomputePeriod := by
  unfold State.recomputePeriod
  dsimp only
  split
  · exact keeps.refl _ s
  · exact setScanner_keeps_all s _

theorem freeReportOf_keeps (p : Port) : keeps [.report] s (s.freeReportOf p) := by
  unfold State.freeReportOf
  split
  · split
    · exact setReport_keeps s none fun _ => rfl
    · exact keeps.refl _ s
  · exact keeps.refl _ s

theorem elapse_fits (n : Nat) (ps : PortState) :
    (ps.elapse n).bid = ps.bid ∧ (ps.fits → (ps.elapse n).fits) := by
  unfold PortState.elapse
  split <;> exact ⟨rfl, id⟩

theorem elapseMs_keeps (n : Nat) : keeps [.doors, .ports, .scanner] s (s.elapseMs n) := by
  unfold State.elapseMs
  split
  · exact keeps.refl _ s
  · refine keeps.andThen (setDoors_keeps s _)
      (keeps.andThen (setPorts_keeps _ (mapV (PortState.elapse n) s.ports) ?_ ?_)
      (setScanner_keeps _ _ rfl) (zs := [.ports, .scanner]) (by simp)) (by simp)
    · intro p; simp [elapse_fits]
    · intro p; simpa using (elapse_fits n (s.ports.get p)).2

/-- The timers count in doors, scanner, allowances, stops, handoffs and report, and change nothing that a law reads. -/
theorem secondTimers_keeps : keeps [.doors, .scanner, .defrosts, .stops, .handoffs, .report] s s.secondTimers := by
  intro x hx
  unfold State.secondTimers
  split
  · exact keeps.refl _ s x hx
  · cases x <;> simp [Aspect.kept] at hx ⊢
  · cases x <;> simp [Aspect.kept, Function.comp_def, Stop.keys, Handoff.keys] at hx ⊢
    case stopKeys | handKeys => exact fun _ => rfl
    case reportSize => cases s.report <;> simp

theorem advanceSecond_keeps : keeps
    [.doors, .ports, .scanner, .defrosts, .stops, .handoffs, .report, .seconds, .subMs] s s.advanceSecond := by
  unfold State.advanceSecond
  split
  · refine keeps.andThen ((elapseMs_keeps s (1000 - s.subMs)).andThen (secondTimers_keeps _)
      (zs := [.doors, .ports, .scanner, .defrosts, .stops, .handoffs, .report]) (by simp))
      (ys := [.seconds, .subMs]) ?_ (by simp)
    intro x hx
    cases x <;> simp [Aspect.kept] at hx ⊢
  · exact keeps.refl _ s

theorem idle_keeps : keeps
    [.doors, .ports, .scanner, .defrosts, .stops, .handoffs, .report, .seconds, .subMs] s s.idle := by
  unfold State.idle
  split
  · exact keeps.refl _ s
  · split
    · exact advanceSecond_keeps s
    · refine (elapseMs_keeps s 1).andThen (ys := [.subMs]) ?_ (by simp)
      intro x hx
      cases x <;> simp [Aspect.kept] at hx ⊢

/-- Answering changes the ports; their bids stay, and a response whose BODY fits keeps them within the capacities. -/
theorem respond_keeps (p : Port) (kind answer tag : Byte) (r : Reply) (body : r.body.length ≤ 238) :
    keeps [.ports] r.state (State.respond p kind answer tag r) := by
  rw [respond_eq]
  refine modPort_keeps _ _ (fun ps => ?_) fun ps h => ?_
  · unfold PortState.refused
    split <;> rfl
  · obtain ⟨hu, hr, -⟩ := h
    unfold PortState.refused
    split <;> exact ⟨hu, hr, by simpa [PortState.answering, Response.fits] using body⟩

theorem respond_keeps_all (p : Port) (kind answer tag : Byte) (r : Reply) :
    keeps [.ports, .fits] r.state (State.respond p kind answer tag r) := by
  rw [respond_eq]
  intro x hx
  cases x <;> simp [Aspect.kept] at hx ⊢
  case bids =>
    intro q
    split
    · unfold PortState.refused
      split <;> rfl
    · rfl

theorem beginResponse_keeps (p : Port) : keeps [.ports] s (s.beginResponse p) := by
  unfold State.beginResponse
  dsimp only
  split
  · exact modPort_keeps s p (fun _ => rfl) fun _ => id
  · exact keeps.refl _ s

/-! ### Doors (chapter 3) -/

theorem chargeOpening_keeps (d : Comp) : keeps [.lots, .ports] s (s.chargeOpening d) := by
  refine (mapLots_keeps s fun l => ?_).andThen (post_keeps _ _) (by simp)
  split <;> rfl

theorem takeLatch_keeps (d : Comp) (isOpen : Bool) (kind : Option OpeningKind) (cause : Cause) :
    keeps [.doors, .ports] s (s.takeLatch d isOpen kind cause) :=
  (modDoor_keeps s d _).andThen (post_keeps _ _) (by simp)

theorem latchChange_keeps (d : Comp) (isOpen : Bool) (kind : Option OpeningKind) :
    keeps [.doors, .ports] s (s.latchChange d isOpen kind) := by
  unfold State.latchChange
  split
  · exact takeLatch_keeps s d _ _ _
  · exact (modDoor_keeps s d _).mono (by simp)

theorem acceptLevel_keeps (d : Comp) : keeps [.doors, .lots, .ports] s (s.acceptLevel d) := by
  unfold State.acceptLevel
  dsimp only
  split
  · exact (modDoor_keeps s d _).mono (by simp)
  · have charged : keeps [.lots, .ports] s (if s.openingKind = .unscheduled then s.chargeOpening d else s) := by
      split
      · exact chargeOpening_keeps s d
      · exact keeps.refl _ s
    exact charged.andThen ((modDoor_keeps _ d _).andThen (latchChange_keeps _ d _ _) (zs := [.doors, .ports])
      (by simp)) (by simp)
  all_goals exact (modDoor_keeps s d _).andThen (latchChange_keeps _ d _ _) (by simp)

theorem enterHeld_keeps (d : Comp) : keeps [.doors, .ports] s (s.enterHeld d) := by
  unfold State.enterHeld
  dsimp only
  split
  · exact (modDoor_keeps s d _).andThen (post_keeps _ _) (by simp)
  · exact (modDoor_keeps s d _).mono (by simp)

theorem addDoorSecond_keeps (n : StopNo) (d : Comp) : keeps [.doors, .stops, .ports] s (s.addDoorSecond n d) := by
  have counted : keeps [.doors, .stops] s ((s.modDoor d fun x => { x with stopAcc := x.stopAcc - 1000 }).modStop n
      fun st => { st with doorSecs := modAt st.doorSecs d fun k => satAdd 16 k 1 }) :=
    (modDoor_keeps s d _).andThen (modStop_keeps _ n (by intro; rfl)) (by simp)
  unfold State.addDoorSecond
  dsimp only
  split
  · split
    · exact counted.andThen ((modStop_keeps _ n (by intro; rfl)).andThen (post_keeps _ _)
        (zs := [.stops, .ports]) (by simp))
        (by simp)
    · exact counted.mono (by simp)
  · exact counted.mono (by simp)

theorem drainStop_keeps (n : StopNo) : keeps [.doors, .stops, .ports] s (s.drainStop n) :=
  keeps.foldl (fun _ d => keeps.iterate (fun t => addDoorSecond_keeps t n d) _ _) _ s

theorem doorSettings_keeps (d : Comp) (old : DoorCfg) : keeps [.doors, .lots, .ports] s (s.doorSettings d old) := by
  unfold State.doorSettings
  dsimp only
  split
  · exact (modDoor_keeps s d _).mono (by simp)
  · have accepted : keeps [.doors, .lots, .ports] s (if s.changeIsDue d then s.acceptLevel d else s) := by
      split
      · exact acceptLevel_keeps s d
      · exact keeps.refl _ s
    revert accepted
    generalize (if s.changeIsDue d then s.acceptLevel d else s) = t
    intro accepted
    split
    · exact accepted.andThen (enterHeld_keeps t d) (by simp)
    · exact accepted

/-! ### Handoffs (chapter 8) -/

theorem endOffer_keeps (j : HIndex) (h : Handoff) (last : HandoffState) :
    keeps [.handoffs, .handKeys, .lots, .goods] s (s.endOffer j h last) :=
  (modHandoff_keeps_keys s j _).andThen (modLot_keeps_goods _ _ _) (by simp)

theorem settle_keeps (j : HIndex) (copied : Bool) : keeps [.handoffs, .handKeys] s (s.settle j copied) :=
  modHandoff_keeps_keys s j _

theorem resolve_keeps (j : HIndex) : keeps [.handoffs, .handKeys, .lots, .goods] s (s.resolve j) := by
  unfold State.resolve
  split
  · split
    · exact endOffer_keeps s j _ _
    · exact (settle_keeps s j _).mono (by simp)
    · exact keeps.refl _ s
  · exact keeps.refl _ s

/-! ### Claims (chapter 9) -/

theorem modOpenClaims_keeps (j : HIndex) (f : Nat → Nat) : keeps [.lots] s (s.modOpenClaims j f) := by
  unfold State.modOpenClaims
  split
  · exact modLot_keeps s _ fun _ => rfl
  · exact keeps.refl _ s

theorem startAssessor_keeps : keeps [.claims, .assessor] s s.startAssessor := by
  unfold State.startAssessor
  split
  · split
    · exact (modClaim_keeps s _ _).andThen (setAssessor_keeps _ _) (by simp)
    · exact keeps.refl _ s
  · exact keeps.refl _ s

theorem applyVerdict_keeps (a : Assessment) : keeps [.claims, .lots, .ports] s (s.applyVerdict a) := by
  unfold State.applyVerdict
  split
  · exact ((modClaim_keeps s _ _).andThen (modOpenClaims_keeps _ _ _) (zs := [.claims, .lots]) (by simp)).andThen
      (post_keeps _ _) (by simp)
  · exact keeps.refl _ s

theorem freeClaims_keeps (gone : Claim → Bool) : keeps [.claims, .assessor] s (s.freeClaims gone) := by
  intro x hx
  cases x <;> simp [Aspect.kept, State.freeClaims] at hx ⊢

/-! ### Defrosts and exposure (chapters 4 and 5) -/

theorem decide_pool (closed : Bool) (d o : Nat) (time : Time) (a : Allowance) :
    (a.decide closed d o time).2.pool ≤ a.pool := by
  unfold Allowance.decide
  dsimp only
  split
  · exact le_refl _
  · exact le_refl _
  · split_ifs
    · exact Nat.sub_le _ _
    · exact le_refl _
    · exact Nat.zero_le _

theorem decideStep_keeps (r : Reading) (d o : Nat) : keeps [.defrosts, .ports] s (s.decideStep r d o).2 := by
  have decided : keeps [.defrosts] s (s.modDefrost r.comp fun _ =>
      ((s.defrosts.get r.comp).decide ((s.doors.get r.comp).state == .closed) d o r.time).2) := by
    refine setDefrosts_keeps s _ fun c => ?_
    simp only [get_modAt]
    split
    · next h => subst h; exact decide_pool _ _ _ _ _
    · exact le_refl _
  unfold State.decideStep
  dsimp only
  split
  · split
    · exact decided.andThen (post_keeps _ _) (by simp)
    · exact decided.mono (by simp)
  · exact decided.mono (by simp)

theorem takeStep_keeps (r : Reading) (d : Nat) : keeps [.defrosts, .ports, .lots, .bases] s (s.takeStep r d) := by
  refine (decideStep_keeps s r d _).andThen ((mapLots_keeps _ fun l => ?_).andThen (modBase_keeps _ _ _)
    (zs := [.lots, .bases]) (by simp)) (by simp)
  split <;> rfl

theorem takeUnstepped_keeps (r : Reading) : keeps [.lots, .bases] s (s.takeUnstepped r) := by
  unfold State.takeUnstepped
  dsimp only
  split
  · refine (mapLots_keeps s fun l => ?_).andThen (modBase_keeps _ _ _) (by simp)
    split <;> rfl
  · exact (modBase_keeps s _ _).mono (by simp)

theorem accountReading_keeps (r : Reading) : keeps [.defrosts, .ports, .lots, .bases] s (s.accountReading r) := by
  have joined (t : State) : keeps [.lots] t (t.joinLots r.comp) := by
    refine mapLots_keeps t fun l => ?_
    split <;> rfl
  unfold State.accountReading
  split
  · exact (takeStep_keeps s r _).andThen (joined _) (by simp)
  · exact (takeUnstepped_keeps s r).andThen (joined _) (by simp)

theorem accountReadings_keeps (rs : List Reading) :
    keeps [.defrosts, .ports, .lots, .bases] s (s.accountReadings rs) := keeps.foldl accountReading_keeps rs s

theorem chargeGap_keeps (resumed : Bool) (c : Comp) : keeps [.lots, .bases] s (s.chargeGap resumed c) := by
  unfold State.chargeGap
  split
  · exact keeps.refl _ s
  · refine (mapLots_keeps s fun l => ?_).andThen (modBase_keeps _ _ _) (by simp)
    split <;> rfl

theorem shiftBases_keeps (delta : Time) : keeps [.bases, .scanner] s (s.shiftBases delta) := by
  intro x hx
  cases x <;> simp [Aspect.kept, State.shiftBases] at hx ⊢

/-! ### The watches (chapter 2) -/

/-- A change of a watch that keeps its list within the capacity. -/
theorem modWatch_keeps_list (c : Comp) {f : Watch → Watch}
    (list : ∀ w : Watch, w.list.length ≤ 8 → (f w).list.length ≤ 8) : keeps [.watches, .lawful] s (s.modWatch c f) := by
  intro x hx
  cases x <;> simp [Aspect.kept] at hx ⊢
  case lists => intro d h; split <;> simp [h, list]

theorem modLast_length (f : Excursion → Excursion) (l : List Excursion) : (modLast f l).length = l.length := by
  rcases List.eq_nil_or_concat l with rfl | ⟨l, e, rfl⟩
  · rfl
  · simp [modLast_append]

theorem addExcursion_length {l : List Excursion} (e : Excursion) (h : l.length ≤ 8) :
    (addExcursion l e).length ≤ 8 := by
  unfold addExcursion
  split <;> simp <;> omega

theorem openExcursion_keeps (r : Reading) (side : Side) (t : Int) (hits : Nat) :
    keeps [.watches, .lawful, .lots, .ports] s (s.openExcursion r side t hits) := by
  have opened : keeps [.watches, .lawful, .lots] s _ :=
    (modWatch_keeps_list s r.comp (f := fun w => { w with
      state := .excursion, hits := hits, clears := 0
      armed := if (s.settings.comps.get r.comp).mode = .firstOnly then false else w.armed
      list := addExcursion w.list ⟨r.time, side, t, hits, none,
        (s.watches.get r.comp).announces (s.settings.comps.get r.comp)⟩ })
      fun w h => addExcursion_length _ h).andThen
      (mapLots_keeps _ (f := fun l => if l.accountingIn r.comp then
        { l with acct := { l.acct with excursions := satAdd 8 l.acct.excursions 1 } } else l)
        fun l => by split <;> rfl) (by simp)
  unfold State.openExcursion
  dsimp only
  split
  · exact opened.andThen (post_keeps _ _) (by simp)
  · exact opened.mono (by simp)

theorem closeExcursion_keeps (r : Reading) : keeps [.watches, .lawful, .ports] s (s.closeExcursion r) := by
  have closed : keeps [.watches, .lawful] s _ := modWatch_keeps_list s r.comp (f := fun w => { w with
      state := .normal, hits := 0, clears := 0, list := modLast (fun e => { e with finish := some r.time }) w.list })
    fun w h => by simpa [modLast_length] using h
  unfold State.closeExcursion
  dsimp only
  split
  · split
    · exact closed.andThen (post_keeps _ _) (by simp)
    · exact closed.mono (by simp)
  · exact closed.mono (by simp)

theorem watchHit_keeps (r : Reading) (side : Side) (t : Int) :
    keeps [.watches, .lawful, .lots, .ports] s (s.watchHit r side t) := by
  have calm (hits : Nat) : keeps [.watches, .lawful, .lots, .ports] s
      (if (s.settings.comps.get r.comp).trigger ≤ hits then s.openExcursion r side t hits
      else s.modWatch r.comp fun w => { w with state := .suspect, hits := hits }) := by
    split
    · exact openExcursion_keeps s r side t _
    · exact (modWatch_keeps_list s _ (by exact fun _ => id)).mono (by simp)
  unfold State.watchHit
  dsimp only
  split
  · exact calm _
  · exact calm _
  all_goals exact (modWatch_keeps_list s _ (by intro w h; simpa [modLast_length] using h)).mono (by simp)

theorem watchInBand_keeps (r : Reading) : keeps [.watches, .lawful, .ports] s (s.watchInBand r) := by
  have busy (clears : Nat) : keeps [.watches, .lawful, .ports] s
      (if (s.settings.comps.get r.comp).clear ≤ clears then s.closeExcursion r
      else s.modWatch r.comp fun w => { w with state := .recovering, clears := clears }) := by
    split
    · exact closeExcursion_keeps s r
    · exact (modWatch_keeps_list s _ (by exact fun _ => id)).mono (by simp)
  unfold State.watchInBand
  dsimp only
  split
  · exact keeps.refl _ s
  · exact (modWatch_keeps_list s _ (by exact fun _ => id)).mono (by simp)
  all_goals exact busy _

/-- Taking a reading changes the watches, the lots and the ports, and keeps the law of the watches. -/
theorem watchReading_keeps (r : Reading) : keeps [.watches, .lots, .ports] s (s.watchReading r) := by
  have others : keeps [.watches, .lawful, .lots, .ports] s (s.watchReading r) := by
    unfold State.watchReading
    split
    · exact keeps.refl _ s
    split
    · exact keeps.refl _ s
    split
    · exact (watchInBand_keeps s r).mono (by simp)
    · exact watchHit_keeps s r _ _
    · split
      · exact (modWatch_keeps_list s _ (by exact fun _ => id)).mono (by simp)
      · exact watchHit_keeps s r _ _
  intro x hx
  cases x
  case lawful => exact fun h => State.watchReading_watchLaw h r
  all_goals exact others _ (by simp at hx ⊢)

/-! ### The scanner (chapter 1) -/

theorem latchFault_keeps (i : Probe) (q : Quality) (time : Time) :
    keeps [.probes, .ports] s (s.latchFault i q time) := by
  unfold State.latchFault
  split
  · exact (modProbe_keeps s i (by exact fun _ => id)).andThen (post_keeps _ _) (by simp)
  · exact (modProbe_keeps s i (by exact fun _ => id)).mono (by simp)

theorem addSample_length {ring : List Sample} (x : Sample) (h : ring.length ≤ 4) : (addSample ring x).length ≤ 4 := by
  unfold addSample
  split <;> simp <;> omega

theorem completeRead_keeps (x : Scan) (i : Probe) (out : ReadOutcome) :
    keeps [.probes, .scanner, .ports] s (s.completeRead x i out) := by
  unfold State.completeRead
  dsimp only
  split
  · refine keeps.andThen (xs := [.probes, .scanner]) ?_ (latchFault_keeps _ i _ _) (by simp)
    refine (modProbe_keeps s i ?_).andThen (setScanner_keeps _ _ rfl) (by simp)
    exact fun _ h => addSample_length _ h
  · refine (modProbe_keeps s i ?_).andThen (setScanner_keeps _ _ rfl) (by simp)
    exact fun _ h => addSample_length _ h

theorem completeScan_keeps (x : Scan) (watchFirst : BitVec 4) :
    keeps [.comps, .watches, .lots, .ports, .defrosts, .bases, .scanner] s (s.completeScan x watchFirst) := by
  unfold State.completeScan
  dsimp only
  have watched (t : State) (rs : List Reading) : keeps [.watches, .lots, .ports] t (rs.foldl State.watchReading t) :=
    keeps.foldl watchReading_keeps rs t
  refine keeps.andThen (keeps.andThen (keeps.andThen (keeps.andThen (keeps.andThen (setComps_keeps s _) (watched _ _)
    (zs := [.comps, .watches, .lots, .ports]) (by simp)) (accountReadings_keeps _ _)
    (zs := [.comps, .watches, .lots, .ports, .defrosts, .bases]) (by simp)) (watched _ _)
    (zs := [.comps, .watches, .lots, .ports, .defrosts, .bases]) (by simp)) (post_keeps _ _)
    (zs := [.comps, .watches, .lots, .ports, .defrosts, .bases]) (by simp)) (setScanner_keeps _ _ rfl) (by simp)

theorem startScan_keeps : keeps [.comps, .scanner] s s.startScan :=
  (setComps_keeps s _).andThen (setScanner_keeps _ _ rfl) (by simp)

/-! ### Links (chapter 10) -/

theorem forgetParty_keeps (p : Port) : keeps [.ports, .bids, .report, .scanner, .period] s (s.forgetParty p) := by
  have emptied : keeps [.ports, .bids] s
      (s.modPort p fun ps => { ps with urgent := [], routine := [], bid := none }) := by
    intro x hx
    cases x <;> simp [Aspect.kept] at hx ⊢
    case fits =>
      intro q h
      split
      · obtain ⟨-, -, hreq⟩ := h; exact ⟨by simp, by simp, hreq⟩
      · exact h
  exact (emptied.andThen (freeReportOf_keeps _ p) (zs := [.ports, .bids, .report]) (by simp)).andThen
    (recomputePeriod_keeps _) (by simp)

theorem takeChange_keeps (p : Port) (c : PortChange) :
    keeps [.ports, .bids, .report, .scanner, .period] s (s.takeChange p c) := by
  have role : keeps [.ports, .bids, .report, .scanner, .period] s (s.changeRole p c.role) := by
    unfold State.changeRole
    split
    · exact keeps.refl _ s
    · exact (modPort_keeps s p (by intro; rfl) (by exact fun _ => id)).andThen (forgetParty_keeps _ p) (by simp)
  have baud (t : State) : keeps [.ports] t (t.changeBaud p c.baud) := by
    unfold State.changeBaud
    split
    · exact keeps.refl _ t
    · exact modPort_keeps t p (by intro; rfl) (by exact fun _ => id)
  exact role.andThen (baud _) (by simp)

theorem applyAfter_keeps (p : Port) (r : Response) : keeps [.ports, .restartDue] s (s.applyAfter p r) := by
  unfold State.applyAfter
  split
  · exact keeps.refl _ s
  · exact (setRestartDue_keeps s _).mono (by simp)
  · exact (modPort_keeps s _ (by intro; rfl) (by exact fun _ => id)).mono (by simp)

end Sys2Proof.Machine
end

section
/-!
PROOF. What the rule of each request keeps, and what each event keeps. A request that only reports keeps everything.
-/
namespace Sys2Proof.Machine

variable (s : State)

/-! ### Rules that only report -/

theorem actClockGet_state : (actClockGet s).state = s := rfl

theorem actSettingsGet_state (g i : Byte) : (actSettingsGet g i s).state = s := by unfold actSettingsGet; split <;> rfl

theorem actCompartmentStatus_state (c : Byte) : (actCompartmentStatus c s).state = s := by
  unfold actCompartmentStatus; split <;> rfl

theorem actProbeStatus_state (i : Byte) : (actProbeStatus i s).state = s := by unfold actProbeStatus; split <;> rfl

theorem actDoorStatus_state (d : Byte) : (actDoorStatus d s).state = s := by unfold actDoorStatus; split <;> rfl

theorem actDefrostStatus_state (c : Byte) : (actDefrostStatus c s).state = s := by
  unfold actDefrostStatus; split <;> rfl

theorem actLotStatus_state (lot : Word) (part : Byte) : (actLotStatus lot part s).state = s := by
  unfold actLotStatus; split
  · rfl
  · split <;> rfl

theorem actLotList_state (first : Byte) : (actLotList first s).state = s := by unfold actLotList; split <;> rfl

theorem actStopStatus_state (n : Byte) : (actStopStatus n s).state = s := by unfold actStopStatus; split <;> rfl

theorem actHandoffStatus_state (i : Byte) : (actHandoffStatus i s).state = s := by
  unfold actHandoffStatus; split
  · rfl
  · split <;> rfl

theorem actClaimList_state : (actClaimList s).state = s := rfl

/-! ### Rules about a port, probes, watches, doors and defrosts -/

theorem actPortStatus_keeps (p : Port) : keeps [.ports] s (actPortStatus p s).state :=
  modPort_keeps s p (by intro; rfl) (by exact fun _ => id)

theorem actCountersClear_keeps (p : Port) : keeps [.ports] s (actCountersClear p s).state :=
  modPort_keeps s p (by intro; rfl) (by exact fun _ => id)

theorem actNoticeEnable_keeps (p : Port) (v : Byte) : keeps [.ports] s (actNoticeEnable p v s).state := by
  unfold actNoticeEnable
  split
  · exact keeps.refl _ s
  · exact modPort_keeps s p (by intro; rfl) (by exact fun _ => id)

theorem actScanBid_keeps (p : Port) (n : Half) :
    keeps [.ports, .bids, .scanner, .period] s (actScanBid p n s).state := by
  refine keeps.andThen (xs := [.ports, .bids]) ?_ (recomputePeriod_keeps _) (by simp)
  intro x hx
  cases x <;> simp [Aspect.kept] at hx ⊢
  case fits =>
    intro q h
    split
    · exact h
    · exact h

theorem actProbeClear_keeps (i : Byte) : keeps [.probes] s (actProbeClear i s).state := by
  unfold actProbeClear
  split
  · exact keeps.refl _ s
  · exact modProbe_keeps s _ (by exact fun _ => id)

theorem actWatchRearm_keeps (c : Byte) : keeps [.watches] s (actWatchRearm c s).state := by
  unfold actWatchRearm
  split
  · exact keeps.refl _ s
  · exact modWatch_keeps s _ (by exact fun _ => id) (by exact fun _ => id)

theorem rearm_keeps (d : Comp) : keeps [.doors, .ports] s (s.rearm d) := by
  unfold State.rearm
  dsimp only
  split
  · exact (modDoor_keeps s d _).mono (by simp)
  · split
    · exact (modDoor_keeps s d _).andThen (takeLatch_keeps _ d _ _ _) (by simp)
    · exact (modDoor_keeps s d _).mono (by simp)

theorem actDoorRearm_keeps (d : Byte) : keeps [.doors, .ports] s (actDoorRearm d s).state := by
  unfold actDoorRearm
  split
  · exact keeps.refl _ s
  · exact rearm_keeps s _

theorem actDefrostAsk_keeps (c : Byte) : keeps [.defrosts, .watches] s (actDefrostAsk c s).state := by
  unfold actDefrostAsk
  split
  · exact keeps.refl _ s
  dsimp only
  split
  · exact (modDefrost_keeps s _ (by intro; exact le_refl _)).mono (by simp)
  · exact (modDefrost_keeps s _ (by intro; exact le_refl _)).andThen
      (modWatch_keeps _ _ (by exact fun _ => id) (by exact fun _ => id)) (by simp)

theorem actDefrostEnd_keeps (c : Byte) : keeps [.defrosts] s (actDefrostEnd c s).state := by
  unfold actDefrostEnd
  split
  · exact keeps.refl _ s
  dsimp only
  split
  · exact keeps.refl _ s
  · exact modDefrost_keeps s _ (by intro; exact le_refl _)

/-! ### Rules about the clock, the settings and starts -/

theorem actClockSet_keeps (n : Word) :
    keeps [.bases, .scanner, .seconds, .clockUnset] s (actClockSet n s).state := by
  unfold actClockSet
  split
  · exact keeps.refl _ s
  · refine (shiftBases_keeps s (n - s.seconds)).andThen (ys := [.seconds, .clockUnset]) ?_ (by simp)
    intro x hx
    cases x <;> simp [Aspect.kept, reply] at hx ⊢

theorem watchSettings_keeps (c : Comp) (old : CompCfg) : keeps [.watches] s (s.watchSettings c old) := by
  unfold State.watchSettings
  split
  · exact modWatch_keeps s _ (by exact fun _ => id) (by exact fun _ => id)
  · exact keeps.refl _ s

theorem defrostSettings_keeps (c : Comp) : keeps [.defrosts, .pools] s (s.defrostSettings c) := by
  unfold State.defrostSettings
  intro x hx
  cases x <;> simp [Aspect.kept] at hx ⊢

/-- An accepted entry acts on the block that it belongs to. -/
theorem applyEntry_keeps (p : Port) (r : EntryRef) (old : Settings) : keeps
    [.scanner, .period, .ports, .probes, .doors, .lots, .watches, .defrosts, .pools] s (s.applyEntry p r old) := by
  cases r
  case general => exact (recomputePeriod_keeps s).mono (by simp)
  case port q => exact (modPort_keeps s q (by intro; rfl) (by exact fun _ => id)).mono (by simp)
  case probe i => exact (modProbe_keeps s i (by exact fun _ => id)).mono (by simp)
  case door d => exact (doorSettings_keeps s d _).mono (by simp)
  case compartment c => exact (watchSettings_keeps s c _).andThen (defrostSettings_keeps _ c) (by simp)
  case cls => exact keeps.refl _ s

theorem actSettingsPut_keeps (p : Port) (g i : Byte) (entry : List Byte) : keeps
    [.settings, .storeWrite, .scanner, .period, .ports, .probes, .doors, .lots, .watches, .defrosts, .pools] s
    (actSettingsPut p g i entry s).state := by
  unfold actSettingsPut
  split
  · exact keeps.refl _ s
  split
  · exact keeps.refl _ s
  split
  · exact keeps.refl _ s
  split
  · exact keeps.refl _ s
  split
  · exact keeps.refl _ s
  split
  · exact keeps.refl _ s
  · refine keeps.andThen (xs := [.settings, .storeWrite]) ?_ (applyEntry_keeps _ _ _ _) (by simp)
    intro x hx
    cases x <;> simp [Aspect.kept] at hx ⊢

theorem actRestart_keeps : keeps [.restartTaken, .scanner] s (actRestart s).state := by
  unfold actRestart
  split
  · exact keeps.refl _ s
  · intro x hx
    cases x <;> simp [Aspect.kept] at hx ⊢

/-! ### Rules about lots and the report slot -/

theorem actLotLoad_keeps (lot : Word) (k c : Byte) (q : Half) :
    keeps [.lots, .goods] s (actLotLoad lot k c q s).state := by
  unfold actLotLoad
  split
  · exact keeps.refl _ s
  split
  · split
    · exact keeps.refl _ s
    split
    · exact keeps.refl _ s
    split
    · exact keeps.refl _ s
    · exact setLots_keeps s _
  · exact keeps.refl _ s

theorem actLotMove_keeps (lot : Word) (c : Byte) : keeps [.lots] s (actLotMove lot c s).state := by
  unfold actLotMove
  split
  · exact keeps.refl _ s
  split
  · exact keeps.refl _ s
  split
  · exact keeps.refl _ s
  split
  · exact keeps.refl _ s
  split
  · exact keeps.refl _ s
  · exact modLot_keeps s _ (by intro; rfl)

theorem actLotWriteOff_keeps (lot : Word) (q : Half) :
    keeps [.lots, .goods] s (actLotWriteOff lot q s).state := by
  unfold actLotWriteOff
  split
  · exact keeps.refl _ s
  split
  · exact keeps.refl _ s
  split
  · exact keeps.refl _ s
  split
  · exact keeps.refl _ s
  · exact modLot_keeps_goods s _ _

theorem retire_keeps (i : Slot) (l : Lot) :
    keeps [.lots, .goods, .handoffs, .handKeys, .claims, .assessor] s (s.retire i l) := by
  refine (freeClaims_keeps s (Claim.ofLot l)).andThen (ys := [.lots, .goods, .handoffs, .handKeys]) ?_ (by simp)
  intro x hx
  cases x <;> simp [Aspect.kept, State.retire] at hx ⊢

theorem actLotRetire_keeps (lot : Word) (force : Byte) :
    keeps [.lots, .goods, .handoffs, .handKeys, .claims, .assessor] s (actLotRetire lot force s).state := by
  unfold actLotRetire
  split
  · exact keeps.refl _ s
  split
  · exact keeps.refl _ s
  split
  · exact keeps.refl _ s
  split
  · exact keeps.refl _ s
  split
  · exact keeps.refl _ s
  split
  · exact keeps.refl _ s
  · exact retire_keeps s _ _

theorem actReportLot_keeps (p : Port) (lot : Word) (page : Byte) :
    keeps [.report, .reportSize] s (actReportLot p lot page s).state := by
  have freed : keeps [.report, .reportSize] s { s with report := none } :=
    (setReport_keeps s none fun _ => rfl).mono (by simp)
  unfold actReportLot
  split
  · exact keeps.refl _ s
  split
  · split
    · split
      · exact keeps.refl _ s
      split
      · exact keeps.refl _ s
      split
      · exact freed
      · exact keeps.refl _ s
    · exact keeps.refl _ s
  · split
    · exact keeps.refl _ s
    · intro x hx
      cases x <;> simp [Aspect.kept, reply] at hx ⊢

/-! ### Rules about routes and stops -/

theorem actRouteBegin_keeps (n : Half) : keeps [.route, .stops, .stopKeys] s (actRouteBegin n s).state := by
  unfold actRouteBegin
  split
  · intro x hx
    cases x <;> simp [Aspect.kept, reply] at hx ⊢
  · exact keeps.refl _ s

theorem actStopLoad_keeps (n : Byte) (x m : Word) (b l : Half) (planned : List (Word × Half)) :
    keeps [.stops, .stopKeys] s (actStopLoad n x m b l planned s).state := by
  unfold actStopLoad
  split
  · exact keeps.refl _ s
  split
  · exact keeps.refl _ s
  split
  · exact keeps.refl _ s
  split
  · exact keeps.refl _ s
  split
  · exact keeps.refl _ s
  · exact setStops_keeps s _

theorem dispatch_goods (now : Time) (route : Half) (l : Lot) : (l.dispatch now route).goods = l.goods := by
  unfold Lot.dispatch
  split <;> rfl

theorem actDispatch_keeps : keeps [.lots, .route] s (actDispatch s).state := by
  unfold actDispatch
  split
  · exact keeps.refl _ s
  split
  · exact keeps.refl _ s
  split
  · exact keeps.refl _ s
  dsimp only
  split
  · exact keeps.refl _ s
  · exact (mapLots_keeps s (dispatch_goods _ _)).andThen (setRoute_keeps _ _) (by simp)

theorem actVanReturn_keeps :
    keeps [.lots, .goods, .stops, .stopKeys, .route] s (actVanReturn s).state := by
  unfold actVanReturn
  split
  · exact keeps.refl _ s
  · intro x hx
    cases x <;> simp [Aspect.kept, reply] at hx ⊢

theorem openStop_keeps (n : StopNo) : keeps [.stops, .stopKeys, .route, .doors] s (s.openStop n) := by
  intro x hx
  cases x <;> simp [Aspect.kept, State.openStop] at hx ⊢

theorem actStopOpen_keeps (n : Byte) :
    keeps [.stops, .stopKeys, .route, .doors] s (actStopOpen n s).state := by
  unfold actStopOpen
  split
  · exact keeps.refl _ s
  split
  · exact keeps.refl _ s
  split
  · exact keeps.refl _ s
  split
  · exact keeps.refl _ s
  · exact openStop_keeps s _

theorem closeStop_keeps (n : StopNo) (st : Stop) : keeps
    [.doors, .stops, .stopKeys, .ports, .handoffs, .handKeys, .lots, .goods, .route] s (s.closeStop n st) := by
  let t := st.offers.foldl State.resolve (s.drainStop n)
  have resolved : keeps [.doors, .stops, .ports, .handoffs, .handKeys, .lots, .goods] s t :=
    (drainStop_keeps s n).andThen (keeps.foldl resolve_keeps st.offers _) (by simp)
  refine resolved.andThen (ys := [.stops, .stopKeys, .route, .doors]) ?_ (by simp)
  intro x hx
  cases x <;> simp [Aspect.kept, State.closeStop, t] at hx ⊢

theorem actStopClose_keeps : keeps
    [.doors, .stops, .stopKeys, .ports, .handoffs, .handKeys, .lots, .goods, .route] s (actStopClose s).state := by
  unfold actStopClose
  split
  · exact keeps.refl _ s
  · exact closeStop_keeps s _ _

/-! ### Rules about handoffs -/

theorem actHandoffOffer_keeps (lot : Word) (q : Half) :
    keeps [.handoffs, .handKeys, .lots, .goods, .stops, .stopKeys] s (actHandoffOffer lot q s).state := by
  unfold actHandoffOffer
  split
  · exact keeps.refl _ s
  split
  · exact keeps.refl _ s
  split
  · exact keeps.refl _ s
  split
  · exact keeps.refl _ s
  split
  · exact keeps.refl _ s
  split
  · exact keeps.refl _ s
  split
  · exact keeps.refl _ s
  · refine keeps.andThen (xs := [.handoffs, .handKeys, .lots, .goods]) ?_ (modStop_keeps_keys _ _ _) (by simp)
    intro x hx
    cases x <;> simp [Aspect.kept] at hx ⊢

theorem actHandoffAccept_keeps (i : Byte) (code : Word) (a : Half) (cond : Byte) :
    keeps [.handoffs, .handKeys, .lots, .goods, .ports] s (actHandoffAccept i code a cond s).state := by
  unfold actHandoffAccept
  split
  · split
    · exact keeps.refl _ s
    split
    · exact keeps.refl _ s
    split
    · exact keeps.refl _ s
    split
    · exact (modHandoff_keeps s _ (by intro; rfl)).mono (by simp)
    split
    · exact (modHandoff_keeps_keys s _ _).andThen (modLot_keeps_goods _ _ _) (by simp)
    split
    · exact keeps.refl _ s
    · exact (modHandoff_keeps_keys s _ _).andThen ((modLot_keeps_goods _ _ _).andThen (post_keeps _ _)
        (zs := [.lots, .goods, .ports]) (by simp)) (by simp)
  · exact keeps.refl _ s

theorem actHandoffCopied_keeps (i : Byte) (v : Half) :
    keeps [.handoffs, .handKeys] s (actHandoffCopied i v s).state := by
  unfold actHandoffCopied
  split
  · exact keeps.refl _ s
  split
  · exact keeps.refl _ s
  split
  · exact keeps.refl _ s
  dsimp only
  split
  · exact settle_keeps s _ _
  · exact modHandoff_keeps_keys s _ _

theorem actHandoffWithdraw_keeps (i : Byte) :
    keeps [.handoffs, .handKeys, .lots, .goods] s (actHandoffWithdraw i s).state := by
  unfold actHandoffWithdraw
  split
  · exact keeps.refl _ s
  split
  · exact keeps.refl _ s
  split
  · exact endOffer_keeps s _ _ _
  all_goals exact keeps.refl _ s

/-! ### Rules about claims -/

theorem actClaimLodge_keeps (i : Byte) (code : Word) (q : Half) :
    keeps [.claims, .nextClaim, .lots, .assessor] s (actClaimLodge i code q s).state := by
  unfold actClaimLodge
  split
  · exact keeps.refl _ s
  split
  · exact keeps.refl _ s
  split
  · exact keeps.refl _ s
  split
  · dsimp only
    split
    · exact keeps.refl _ s
    split
    · exact keeps.refl _ s
    split
    · exact keeps.refl _ s
    split
    · exact keeps.refl _ s
    split
    · exact keeps.refl _ s
    · refine keeps.andThen (xs := [.claims, .nextClaim]) ?_ ((modOpenClaims_keeps _ _ _).andThen (startAssessor_keeps _)
        (zs := [.claims, .lots, .assessor]) (by simp)) (by simp)
      intro x hx
      cases x <;> simp [Aspect.kept] at hx ⊢
  · exact keeps.refl _ s

theorem withdrawClaim_keeps (c : Claim) : keeps [.claims, .lots] s (s.withdrawClaim c) :=
  (modClaim_keeps s _ _).andThen (modOpenClaims_keeps _ _ _) (by simp)

theorem actClaimWithdraw_keeps (n : Half) :
    keeps [.claims, .lots, .assessor] s (actClaimWithdraw n s).state := by
  unfold actClaimWithdraw
  split
  · exact keeps.refl _ s
  split
  · exact keeps.refl _ s
  split
  · exact (withdrawClaim_keeps s _).mono (by simp)
  · exact (withdrawClaim_keeps s _).andThen (setAssessor_keeps _ _) (by simp)
  all_goals exact keeps.refl _ s

theorem actClaimFetch_keeps (n : Half) : keeps [.claims] s (actClaimFetch n s).state := by
  unfold actClaimFetch
  split
  · exact keeps.refl _ s
  split
  · exact keeps.refl _ s
  split
  · exact modClaim_keeps s _ _
  all_goals exact keeps.refl _ s

theorem actClaimClear_keeps (n : Half) : keeps [.claims, .assessor] s (actClaimClear n s).state := by
  unfold actClaimClear
  split
  · exact keeps.refl _ s
  split
  · exact keeps.refl _ s
  split
  · exact keeps.refl _ s
  · exact freeClaims_keeps s _

end Sys2Proof.Machine
end

section
/-!
PROOF. What each event keeps, the table of what each command may change, and from it the principle by which a law is
proved of every step: a law is read only by the commands that touch what it is about.
-/
namespace Sys2Proof.Machine

variable (s : State)

/-! ### Starts and supplies -/

/-- What no start keeps. -/
def startTouches : List Aspect :=
  [.phase, .settings, .storeWrite, .defaulted, .restartTaken, .restartDue, .scanner, .period, .probes, .comps, .doors,
    .defrosts, .bases, .assessor, .ports, .bids, .report]

/-- What the retained memory holds, and the seconds count. -/
def retainedTouches : List Aspect :=
  [.seconds, .clockUnset, .probes, .watches, .defrosts, .pools, .bases, .lots, .goods, .route, .stops, .stopKeys,
    .handoffs, .handKeys, .claims, .nextClaim]

theorem fresh_fits (cfg : PortCfg) : (PortState.fresh cfg).fits := ⟨Nat.zero_le _, Nat.zero_le _, rfl⟩

theorem fresh_lawful : Watch.fresh.lawful := Watch.lawful_of_closed (by decide) (by decide) (by decide)

theorem beginStart_keeps (cause : StartCause) : keeps startTouches s (s.beginStart cause) := by
  intro x hx
  cases x <;> simp [Aspect.kept, startTouches, State.beginStart] at hx ⊢
  case fits => exact fun p _ => fresh_fits _
  case rings => exact fun i _ => Nat.zero_le _
  case pools => exact fun c => le_refl _

theorem restartStart_keeps : keeps startTouches s (restartStart s) := by
  unfold restartStart
  split
  · exact beginStart_keeps s _
  · exact keeps.refl _ s

theorem powerUp_keeps : keeps startTouches s (powerUp s) := by
  unfold powerUp
  split
  · exact beginStart_keeps s _
  · exact keeps.refl _ s

theorem rstnReset_keeps : keeps ([.store, .draws] ++ startTouches) s (rstnReset s) := by
  unfold rstnReset
  split
  · exact keeps.refl _ s
  split
  · refine keeps.andThen (xs := [.store, .draws]) ?_ (beginStart_keeps _ _) (by simp [startTouches])
    intro x hx
    cases x <;> simp [Aspect.kept] at hx ⊢
  · exact (beginStart_keeps s _).mono (by simp [startTouches])

theorem clearRetained_keeps : keeps retainedTouches s s.clearRetained := by
  intro x hx
  cases x <;> simp [Aspect.kept, retainedTouches, State.clearRetained] at hx ⊢
  case lawful => exact fun _ => fresh_lawful
  case lists => exact fun _ _ => Nat.zero_le _

theorem mainPowerLoss_keeps : keeps
    ([.phase, .store, .storeWrite, .restartTaken, .restartDue, .scanner, .assessor, .ports, .report] ++ retainedTouches)
    s (mainPowerLoss s) := by
  unfold mainPowerLoss
  split
  · exact keeps.refl _ s
  · have cleared : keeps retainedTouches s (if s.marker then s else s.clearRetained) := by
      split
      · exact keeps.refl _ s
      · exact clearRetained_keeps s
    revert cleared
    generalize (if s.marker then s else s.clearRetained) = t
    intro cleared
    refine cleared.andThen
      (ys := [.phase, .store, .storeWrite, .restartTaken, .restartDue, .scanner, .assessor, .ports, .report]) ?_
      (by simp [retainedTouches])
    intro x hx
    cases x <;> simp [Aspect.kept] at hx ⊢
    case fits => exact fun p h => ⟨h.1, h.2.1, rfl⟩

theorem backupSupplyLoss_keeps : keeps (.marker :: retainedTouches) s (backupSupplyLoss s) := by
  have cleared : keeps retainedTouches s (if s.phase = .off then s.clearRetained else s) := by
    split
    · exact clearRetained_keeps s
    · exact keeps.refl _ s
  refine cleared.andThen (ys := [.marker]) ?_ (by simp [retainedTouches])
  intro x hx
  cases x <;> simp [Aspect.kept, backupSupplyLoss] at hx ⊢

theorem clampPools_keeps : keeps [.defrosts] s s.clampPools := setDefrosts_keeps s _ fun c => by simp

theorem restartStopTimer_keeps : keeps [.stops] s s.restartStopTimer := by
  unfold State.restartStopTimer
  split
  · exact modStop_keeps s _ (by intro; rfl)
  · exact keeps.refl _ s

theorem keepRetained_keeps (resumed : Bool) :
    keeps [.defrosts, .handoffs, .handKeys, .lots, .goods, .claims, .bases, .stops] s (s.keepRetained resumed) := by
  have resolved : keeps [.defrosts, .handoffs, .handKeys, .lots, .goods] s s.clampPools.resolveAll :=
    (clampPools_keeps s).andThen (keeps.foldl resolve_keeps _ _) (by simp)
  let t : State := { s.clampPools.resolveAll with claims := s.clampPools.resolveAll.claims.map Claim.atStart }
  have lodged : keeps [.defrosts, .handoffs, .handKeys, .lots, .goods, .claims] s t :=
    resolved.andThen (setClaims_keeps _ _) (by simp)
  have charged : keeps [.lots, .bases] t (t.chargeGaps resumed) :=
    keeps.foldl (fun u c => chargeGap_keeps u resumed c) _ t
  have timed : keeps [.stops] _ (t.chargeGaps resumed).restartStopTimer := restartStopTimer_keeps _
  exact lodged.andThen (charged.andThen timed (zs := [.lots, .bases, .stops]) (by simp)) (by simp)

theorem startReady_keeps : keeps
    ([.phase, .marker, .scanner, .assessor] ++ retainedTouches) s (startReady s) := by
  unfold startReady
  split
  · next cause _ =>
    have retained : keeps (.marker :: retainedTouches) s (s.setRetained cause) := by
      unfold State.setRetained
      split
      · exact (keepRetained_keeps s _).mono (by simp [retainedTouches])
      · refine (clearRetained_keeps s).andThen (ys := [.marker]) ?_ (by simp [retainedTouches])
        intro x hx
        cases x <;> simp [Aspect.kept] at hx ⊢
    refine (retained.andThen (ys := [.phase, .scanner, .defrosts]) ?_
      (zs := [.phase, .scanner, .marker] ++ retainedTouches) (by simp [retainedTouches])).andThen
      (startAssessor_keeps _) (by simp [retainedTouches])
    intro x hx
    cases x <;> simp [Aspect.kept] at hx ⊢
  · exact keeps.refl _ s

/-! ### Timers -/

theorem storeWriteCompletion_keeps : keeps [.store, .storeWrite, .defaulted] s (storeWriteCompletion s) := by
  unfold storeWriteCompletion
  split
  · intro x hx
    cases x <;> simp [Aspect.kept] at hx ⊢
  · exact keeps.refl _ s

theorem refillExpiry_keeps (c : Comp) : keeps [.defrosts, .pools] s (refillExpiry c s) := by
  unfold refillExpiry
  dsimp only
  split
  · intro x hx
    cases x <;> simp [Aspect.kept] at hx ⊢
  · exact keeps.refl _ s

theorem compositionCompletion_keeps : keeps [.report, .ports] s (compositionCompletion s) := by
  unfold compositionCompletion
  split
  · next r report =>
    split
    · refine (setReport_keeps s _ fun h => ?_).andThen (postTo_keeps _ _ _) (by simp)
      simpa [report] using h
    · exact keeps.refl _ s
  · exact keeps.refl _ s

theorem discardTimerExpiry_keeps : keeps [.report] s (discardTimerExpiry s) := by
  unfold discardTimerExpiry
  split
  · split
    · exact setReport_keeps s none fun _ => rfl
    · exact keeps.refl _ s
  · exact keeps.refl _ s

theorem stopTimerExpiry_keeps : keeps [.stops, .ports] s (stopTimerExpiry s) := by
  unfold stopTimerExpiry
  split
  · split
    · dsimp only
      split
      · exact (modStop_keeps s _ (by intro; rfl)).mono (by simp)
      · exact (modStop_keeps s _ (by intro; rfl)).andThen (post_keeps _ _) (by simp)
    · exact keeps.refl _ s
  · exact keeps.refl _ s

theorem ackTimerExpiry_keeps (j : HIndex) :
    keeps [.handoffs, .handKeys, .lots, .goods, .ports] s (ackTimerExpiry j s) := by
  unfold ackTimerExpiry
  split
  · split
    · split
      · exact (endOffer_keeps s j _ _).andThen (post_keeps _ _) (by simp)
      · exact (settle_keeps s j _).mono (by simp)
      · exact keeps.refl _ s
    · exact keeps.refl _ s
  · exact keeps.refl _ s

theorem assessmentCompletion_keeps : keeps [.claims, .lots, .ports, .assessor] s (assessmentCompletion s) := by
  unfold assessmentCompletion
  split
  · next a _ =>
    split
    · have applied : keeps [.claims, .lots, .ports] s (if a.discard then s else s.applyVerdict a) := by
        split
        · exact keeps.refl _ s
        · exact applyVerdict_keeps s a
      exact (applied.andThen (setAssessor_keeps _ _) (zs := [.claims, .lots, .ports, .assessor]) (by simp)).andThen
        (startAssessor_keeps _) (by simp)
    · exact keeps.refl _ s
  · exact keeps.refl _ s

/-! ### Scans and doors -/

/-- What a completed scan changes. -/
def scanTouches : List Aspect := [.comps, .watches, .lots, .ports, .defrosts, .bases, .scanner]

theorem scanStart_keeps : keeps scanTouches s (scanStart s) := by
  unfold scanStart
  split
  · dsimp only
    split
    · split
      · exact (startScan_keeps s).andThen (completeScan_keeps _ _ _) (by simp [scanTouches])
      · exact (startScan_keeps s).mono (by simp [scanTouches])
    · exact (startScan_keeps s).mono (by simp [scanTouches])
  · exact keeps.refl _ s

theorem probeReadCompletion_keeps (i : Probe) (answer : ProbeAnswer) :
    keeps [.probes, .scanner, .ports] s (probeReadCompletion i answer s) := by
  unfold probeReadCompletion
  split
  · exact completeRead_keeps s _ i _
  · exact keeps.refl _ s

theorem readTimeout_keeps (i : Probe) : keeps [.probes, .scanner, .ports] s (readTimeout i s) := by
  unfold readTimeout
  split
  · split
    · exact completeRead_keeps s _ i _
    · exact keeps.refl _ s
  · exact keeps.refl _ s

theorem scanCompletion_keeps (watchFirst : BitVec 4) : keeps scanTouches s (scanCompletion watchFirst s) := by
  unfold scanCompletion
  split
  · split
    · split
      · exact completeScan_keeps s _ _
      · exact keeps.refl _ s
    · exact keeps.refl _ s
  · exact keeps.refl _ s

theorem doorInputLevel_keeps (d : Comp) (high : Bool) : keeps [.doors] s (doorInputLevel d high s) := by
  unfold doorInputLevel
  split
  · exact keeps.refl _ s
  · exact modDoor_keeps s d _

theorem acceptedChange_keeps (d : Comp) : keeps [.doors, .lots, .ports] s (acceptedChange d s) := by
  unfold acceptedChange
  split
  · exact acceptLevel_keeps s d
  · exact keeps.refl _ s

theorem heldLimitReached_keeps (d : Comp) : keeps [.doors, .ports] s (heldLimitReached d s) := by
  unfold heldLimitReached
  split
  · exact enterHeld_keeps s d
  · exact keeps.refl _ s

theorem stopDoorSecond_keeps (d : Comp) : keeps [.doors, .stops, .ports] s (stopDoorSecond d s) := by
  unfold stopDoorSecond
  split
  · split
    · exact addDoorSecond_keeps s _ d
    · exact keeps.refl _ s
  · exact keeps.refl _ s

/-! ### Links -/

/-- What a break or a change of role changes. -/
def partyTouches : List Aspect := [.ports, .bids, .report, .scanner, .period]

theorem interByteTimeout_keeps (p : Port) : keeps [.ports] s (interByteTimeout p s) := by
  unfold interByteTimeout
  split
  · exact modPort_keeps s p (by intro; rfl) (by exact fun _ => id)
  · exact keeps.refl _ s

theorem frameDiscarded_keeps (p : Port) : keeps [.ports] s (frameDiscarded p s) := by
  unfold frameDiscarded
  split
  · exact modPort_keeps s p (by intro; rfl) (by exact fun _ => id)
  · exact keeps.refl _ s

theorem undefinedRequest_keeps (p : Port) (kind tag : Byte) : keeps [.ports] s (undefinedRequest p kind tag s) := by
  unfold undefinedRequest
  split
  · exact keeps.refl _ s
  split
  · exact modPort_keeps s p (by intro; rfl) (by exact fun _ => id)
  split <;> exact respond_keeps _ _ _ _ _ (Nat.zero_le _)

/-- Ending a response, sent or dropped, leaves the port without one. -/
theorem endResponse_keeps (p : Port) :
    keeps [.ports] s (s.modPort p fun ps => { ps with tx := none, request := none }) :=
  modPort_keeps s p (by intro; rfl) fun _ h => ⟨h.1, h.2.1, rfl⟩

theorem responseSent_keeps (p : Port) : keeps [.ports, .restartDue] s (responseSent p s) := by
  unfold responseSent
  split
  · exact (endResponse_keeps s p).andThen (applyAfter_keeps _ p _) (by simp)
  · exact keeps.refl _ s

theorem portSettingsEffect_keeps (p : Port) : keeps partyTouches s (portSettingsEffect p s) := by
  unfold portSettingsEffect
  dsimp only
  split
  · exact (modPort_keeps s p (by intro; rfl) (by exact fun _ => id)).andThen
      (keeps.foldl (fun t c => takeChange_keeps t p c) _ _) (by simp [partyTouches])
  · exact keeps.refl _ s

theorem noticeSend_keeps (p : Port) : keeps [.ports] s (noticeSend p s) := by
  have begun (t : State) (n : Notice) : keeps [.ports] t (t.beginNotice p n) :=
    modPort_keeps t p (by intro; rfl) (by exact fun _ => id)
  unfold noticeSend
  split
  · split
    · next n rest urgent =>
      refine keeps.trans (modPort_keeps_at s p rfl fun h => ⟨(Nat.le_succ _).trans ?_, h.2⟩) (begun _ _)
      exact (congrArg List.length urgent).symm.le.trans h.1
    · next n rest _ routine =>
      refine keeps.trans (modPort_keeps_at s p rfl fun h => ⟨h.1, (Nat.le_succ _).trans ?_, h.2.2⟩) (begun _ _)
      exact (congrArg List.length routine).symm.le.trans h.2.1
    · exact keeps.refl _ s
  · exact keeps.refl _ s

theorem portBreak_keeps (p : Port) : keeps (.restartDue :: partyTouches) s (portBreak p s) := by
  have dropped (t : State) : keeps [.ports, .restartDue] t (t.dropResponse p) := by
    have ended : keeps [.ports] t (t.modPort p fun ps => { ps with request := none, tx := none }) :=
      modPort_keeps t p (by intro; rfl) fun _ h => ⟨h.1, h.2.1, rfl⟩
    unfold State.dropResponse
    dsimp only
    split
    · exact ended.andThen (applyAfter_keeps _ p _) (by simp)
    · exact ended.mono (by simp)
  unfold portBreak
  split
  · exact ((modPort_keeps s p (by intro; rfl) (by exact fun _ => id)).andThen (forgetParty_keeps _ p)
      (zs := partyTouches) (by simp [partyTouches])).andThen (dropped _) (by simp [partyTouches])
  · exact keeps.refl _ s

theorem breakEnd_keeps (p : Port) : keeps [.ports] s (breakEnd p s) := by
  unfold breakEnd
  split
  · exact modPort_keeps s p (by intro; rfl) (by exact fun _ => id)
  · exact keeps.refl _ s

theorem noticeFrameEnd_keeps (p : Port) : keeps partyTouches s (noticeFrameEnd p s) := by
  unfold noticeFrameEnd
  split
  · exact ((modPort_keeps s p (by intro; rfl) (by exact fun _ => id)).andThen (portSettingsEffect_keeps _ p)
      (zs := partyTouches) (by simp [partyTouches])).andThen (beginResponse_keeps _ p) (by simp [partyTouches])
  · exact keeps.refl _ s

/-! ### What each command may change -/

/-- The aspects that a command may change, apart from the answer to a request. -/
def touches : Instr → List Aspect
  | .portStatus .. | .countersClear .. | .noticeEnable .. => [.ports]
  | .scanBid .. => [.ports, .bids, .scanner, .period]
  | .clockSet .. => [.bases, .scanner, .seconds, .clockUnset]
  | .settingsPut .. =>
    [.settings, .storeWrite, .scanner, .period, .ports, .probes, .doors, .lots, .watches, .defrosts, .pools]
  | .storeWriteCompletion => [.store, .storeWrite, .defaulted]
  | .restart .. => [.restartTaken, .scanner]
  | .restartStart | .powerUp => startTouches
  | .rstnReset => [.store, .draws] ++ startTouches
  | .mainPowerLoss =>
    [.phase, .store, .storeWrite, .restartTaken, .restartDue, .scanner, .assessor, .ports, .report] ++ retainedTouches
  | .startReady => [.phase, .marker, .scanner, .assessor] ++ retainedTouches
  | .probeClear .. => [.probes]
  | .watchRearm .. => [.watches]
  | .doorRearm .. => [.doors, .ports]
  | .defrostAsk .. => [.defrosts, .watches]
  | .defrostEnd .. => [.defrosts]
  | .refillExpiry _ => [.defrosts, .pools]
  | .lotLoad .. | .lotWriteOff .. => [.lots, .goods]
  | .lotMove .. => [.lots]
  | .lotRetire .. => [.lots, .goods, .handoffs, .handKeys, .claims, .assessor]
  | .reportLot .. => [.report, .reportSize]
  | .compositionCompletion => [.report, .ports]
  | .discardTimerExpiry => [.report]
  | .routeBegin .. => [.route, .stops, .stopKeys]
  | .stopLoad .. => [.stops, .stopKeys]
  | .dispatch .. => [.lots, .route]
  | .vanReturn .. => [.lots, .goods, .stops, .stopKeys, .route]
  | .stopOpen .. => [.stops, .stopKeys, .route, .doors]
  | .stopClose .. => [.doors, .stops, .stopKeys, .ports, .handoffs, .handKeys, .lots, .goods, .route]
  | .stopTimerExpiry => [.stops, .ports]
  | .handoffOffer .. => [.handoffs, .handKeys, .lots, .goods, .stops, .stopKeys]
  | .handoffAccept .. | .ackTimerExpiry _ => [.handoffs, .handKeys, .lots, .goods, .ports]
  | .handoffCopied .. => [.handoffs, .handKeys]
  | .handoffWithdraw .. => [.handoffs, .handKeys, .lots, .goods]
  | .claimLodge .. => [.claims, .nextClaim, .lots, .assessor]
  | .claimWithdraw .. => [.claims, .lots, .assessor]
  | .claimFetch .. => [.claims]
  | .claimClear .. => [.claims, .assessor]
  | .assessmentCompletion => [.claims, .lots, .ports, .assessor]
  | .scanStart | .scanCompletion _ => scanTouches
  | .probeReadCompletion .. | .readTimeout _ => [.probes, .scanner, .ports]
  | .doorInputLevel .. => [.doors]
  | .acceptedChange _ => [.doors, .lots, .ports]
  | .heldLimitReached _ => [.doors, .ports]
  | .stopDoorSecond _ => [.doors, .stops, .ports]
  | .interByteTimeout _ | .frameDiscarded _ | .undefinedRequest .. | .noticeSend _ | .breakEnd _ => [.ports]
  | .responseSent _ => [.ports, .restartDue]
  | .portSettingsEffect _ | .noticeFrameEnd _ => partyTouches
  | .portBreak _ => .restartDue :: partyTouches
  | .secondsCountAdvance => [.doors, .ports, .scanner, .defrosts, .stops, .handoffs, .report, .seconds, .subMs]
  | .backupSupplyLoss => .marker :: retainedTouches
  | .clockGet .. | .settingsGet .. | .compartmentStatus .. | .probeStatus .. | .doorStatus .. | .defrostStatus ..
  | .lotStatus .. | .lotList .. | .stopStatus .. | .handoffStatus .. | .claimList .. | .probeInvalidAnswer _
  | .byteReceived .. => []

/-- Equal states have every aspect alike. -/
theorem keeps_of_eq {xs : List Aspect} {s t : State} (h : t = s) : keeps xs s t := h ▸ keeps.refl xs s

/-- The rule of a request changes what the table says. -/
theorem rule_keeps (c : Instr) : keeps (touches c) s (ruleOf c s).state := by
  cases c
  case portStatus p _ => exact actPortStatus_keeps s p
  case countersClear p _ => exact actCountersClear_keeps s p
  case noticeEnable p _ v => exact actNoticeEnable_keeps s p v
  case scanBid p _ n => exact actScanBid_keeps s p n
  case clockGet => exact keeps_of_eq (actClockGet_state s)
  case clockSet n => exact actClockSet_keeps s n
  case settingsGet g i => exact keeps_of_eq (actSettingsGet_state s g i)
  case settingsPut p _ g i entry => exact actSettingsPut_keeps s p g i entry
  case restart => exact actRestart_keeps s
  case compartmentStatus c => exact keeps_of_eq (actCompartmentStatus_state s c)
  case probeStatus i => exact keeps_of_eq (actProbeStatus_state s i)
  case probeClear i => exact actProbeClear_keeps s i
  case watchRearm c => exact actWatchRearm_keeps s c
  case doorStatus d => exact keeps_of_eq (actDoorStatus_state s d)
  case doorRearm d => exact actDoorRearm_keeps s d
  case defrostStatus c => exact keeps_of_eq (actDefrostStatus_state s c)
  case defrostAsk c => exact actDefrostAsk_keeps s c
  case defrostEnd c => exact actDefrostEnd_keeps s c
  case lotLoad lot k c q => exact actLotLoad_keeps s lot k c q
  case lotMove lot c => exact actLotMove_keeps s lot c
  case lotWriteOff lot q => exact actLotWriteOff_keeps s lot q
  case lotRetire lot force => exact actLotRetire_keeps s lot force
  case lotStatus lot part => exact keeps_of_eq (actLotStatus_state s lot part)
  case lotList first => exact keeps_of_eq (actLotList_state s first)
  case reportLot p _ lot page => exact actReportLot_keeps s p lot page
  case routeBegin n => exact actRouteBegin_keeps s n
  case stopLoad n x m b l planned => exact actStopLoad_keeps s n x m b l planned
  case dispatch => exact actDispatch_keeps s
  case vanReturn => exact actVanReturn_keeps s
  case stopOpen n => exact actStopOpen_keeps s n
  case stopClose => exact actStopClose_keeps s
  case stopStatus n => exact keeps_of_eq (actStopStatus_state s n)
  case handoffOffer lot q => exact actHandoffOffer_keeps s lot q
  case handoffAccept i code a cond => exact actHandoffAccept_keeps s i code a cond
  case handoffCopied i v => exact actHandoffCopied_keeps s i v
  case handoffWithdraw i => exact actHandoffWithdraw_keeps s i
  case handoffStatus i => exact keeps_of_eq (actHandoffStatus_state s i)
  case claimLodge i code q => exact actClaimLodge_keeps s i code q
  case claimWithdraw n => exact actClaimWithdraw_keeps s n
  case claimFetch n => exact actClaimFetch_keeps s n
  case claimClear n => exact actClaimClear_keeps s n
  case claimList => exact keeps_of_eq (actClaimList_state s)
  all_goals exact keeps.refl _ s

/-- An event changes what the table says. -/
theorem event_keeps (c : Instr) : keeps (touches c) s (eventOf c s) := by
  cases c
  case storeWriteCompletion => exact storeWriteCompletion_keeps s
  case restartStart => exact restartStart_keeps s
  case powerUp => exact powerUp_keeps s
  case rstnReset => exact rstnReset_keeps s
  case mainPowerLoss => exact mainPowerLoss_keeps s
  case startReady => exact startReady_keeps s
  case refillExpiry c => exact refillExpiry_keeps s c
  case compositionCompletion => exact compositionCompletion_keeps s
  case discardTimerExpiry => exact discardTimerExpiry_keeps s
  case stopTimerExpiry => exact stopTimerExpiry_keeps s
  case ackTimerExpiry j => exact ackTimerExpiry_keeps s j
  case assessmentCompletion => exact assessmentCompletion_keeps s
  case scanStart => exact scanStart_keeps s
  case probeReadCompletion i answer => exact probeReadCompletion_keeps s i answer
  case readTimeout i => exact readTimeout_keeps s i
  case scanCompletion watchFirst => exact scanCompletion_keeps s watchFirst
  case doorInputLevel d high => exact doorInputLevel_keeps s d high
  case acceptedChange d => exact acceptedChange_keeps s d
  case heldLimitReached d => exact heldLimitReached_keeps s d
  case stopDoorSecond d => exact stopDoorSecond_keeps s d
  case interByteTimeout p => exact interByteTimeout_keeps s p
  case frameDiscarded p => exact frameDiscarded_keeps s p
  case undefinedRequest p kind tag => exact undefinedRequest_keeps s p kind tag
  case responseSent p => exact responseSent_keeps s p
  case portSettingsEffect p => exact portSettingsEffect_keeps s p
  case noticeSend p => exact noticeSend_keeps s p
  case portBreak p => exact portBreak_keeps s p
  case breakEnd p => exact breakEnd_keeps s p
  case secondsCountAdvance => exact advanceSecond_keeps s
  case backupSupplyLoss => exact backupSupplyLoss_keeps s
  case noticeFrameEnd p => exact noticeFrameEnd_keeps s p
  all_goals exact keeps.refl _ s

/-! ### A law that every command keeps -/

/-- What the queue and the ports make of a law: it reads neither the queue nor, within their capacities, the ports. -/
structure Law (L : State → Prop) : Prop where
  quiet : ∀ {s t : State}, keeps [.pending, .ports] s t → L s → L t
  answer : ∀ (c : Instr) (s : State) (p : Port) (kind answer tag : Byte), L s →
    L (State.respond p kind answer tag (ruleOf c s))
  event : ∀ (c : Instr) (s : State), L s → L (eventOf c s)
  idle : ∀ s : State, L s → L s.idle

section Law

variable {L : State → Prop} (law : Law L) {s t : State}
include law

theorem Law.ports (h : keeps [.ports] s t) (hs : L s) : L t := law.quiet (h.mono (by simp)) hs

/-- Taking a request keeps a law that its rule, once answered, keeps. -/
theorem Law.takeRequest {act : State → Reply} (p : Port) (kind tag : Byte)
    (answer : L s → L (State.respond p kind (answerKind kind) tag (act s))) (hs : L s) :
    L (takeRequest p kind tag act s) := by
  rcases takeRequest_cases p kind tag act s with h | h | ⟨-, h⟩ | h | h <;> rw [h]
  · exact hs
  · exact law.ports (modPort_keeps s p (by intro; rfl) (by exact fun _ => id)) hs
  · exact answer hs
  · exact law.ports (respond_keeps _ _ _ _ (reply .noRight s) (Nat.zero_le _)) hs
  · exact law.ports (respond_keeps _ _ _ _ (reply .notReady s) (Nat.zero_le _)) hs

theorem Law.request {c : Instr} {p : Port} {kind tag : Byte} {body : List Byte}
    (request : encodeRequest c = some (p, kind, tag, body)) (hs : L s) (h : exec c s = .next t) : L t := by
  rw [exec_request request] at h
  cases h
  exact law.takeRequest p kind tag (law.answer c s p kind _ tag) hs

/-- A byte that completes a frame hands it to the request handling; any other changes its port alone. -/
theorem Law.byteReceived (p : Port) (b : Byte) (framingError : Bool) (hs : L s)
    (h : byteReceived p b framingError s = .next t) : L t := by
  unfold Machine.byteReceived at h
  split at h
  · cases h; exact hs
  have hu := law.event (.interByteTimeout p) s hs
  change L (interByteTimeout p s) at hu
  revert hu h
  generalize interByteTimeout p s = u
  intro h hu
  unfold State.byteEffect at h
  split at h
  · cases h
    exact law.ports (modPort_keeps u p (by intro; rfl) (by exact fun _ => id)) hu
  · cases h
    exact law.ports (modPort_keeps u p (by intro; rfl) (by exact fun _ => id)) hu
  · next kind tag body _ =>
    have hv : L (u.modPort p fun ps => { ps with rx := .hunting, good := satAdd 16 ps.good 1 }) :=
      law.ports (modPort_keeps u p (by intro; rfl) (by exact fun _ => id)) hu
    unfold handFrame at h
    split at h
    · cases h; exact law.event (.undefinedRequest p kind tag) _ hv
    · cases h
      exact law.takeRequest p kind tag
        (law.ports (respond_keeps _ _ _ _ (reply .badRequest _) (Nat.zero_le _))) hv
    · next c _ =>
      cases request : encodeRequest c with
      | none => rw [serve_other request] at h; cases h; exact hv
      | some r =>
        rw [serve_request request] at h
        exact law.request request hv h

/-- A law that the answered rules, the events and the passing of time keep, every step keeps. -/
theorem Law.step (hs : L s) (h : step s = .next t) : L t := by
  unfold Machine.step at h
  split at h
  · cases h; exact law.idle s hs
  · next c rest _ =>
    have hq : L { s with pending := rest } := by
      refine law.quiet (fun x hx => ?_) hs
      cases x <;> simp [Aspect.kept] at hx ⊢
    rcases command_kinds c with ⟨p, kind, tag, body, request⟩ | ⟨p, b, framingError, rfl⟩ | ⟨-, event⟩
    · exact law.request request hq h
    · exact law.byteReceived p b framingError hq h
    · rw [event] at h
      cases h
      exact law.event c _ hq

end Law

end Sys2Proof.Machine
end

section
/-!
PROOF. The law of the lot table (R88, R90): but for LOT_LOAD, whose lot is new, no command does more to a lot than move
its cartons or free its slot.
-/
namespace Sys2Proof.Machine

/-- A lot that the law allows. -/
def Lot.lawful (l : Lot) : Prop := l.qty.loaded = l.qty.total ∧ l.qty.loaded ≤ 65535 ∧ l.number ≠ 0

theorem lotLaw_iff (s : State) : s.lotLaw ↔ (∀ i l, s.lots.get i = some l → l.lawful) ∧
    ∀ i j l m, i ≠ j → s.lots.get i = some l → s.lots.get j = some m → l.number ≠ m.number := by
  have lawful_iff (l : Lot) : (l.qty.balanced && decide (l.qty.loaded ≤ 65535) && decide (l.number ≠ 0)) = true ↔
      l.lawful := by
    simp [Lot.lawful, Quantities.balanced, Quantities.total, and_assoc]
  simp only [State.lotLaw, Option.all_eq_true, lawful_iff, decide_eq_true_eq]
  exact and_congr_right fun _ =>
    ⟨fun h i j l m hij hl hm => h i j hij l hl m hm, fun h i j hij l hl m hm => h i j l m hij hl hm⟩

/-- Every lot of `t` is a lot of `s` in the same slot, with the same number and as many cartons. -/
def conserved (s t : State) : Prop := ∀ i l', t.lots.get i = some l' → ∃ l, s.lots.get i = some l ∧
  l'.number = l.number ∧ l'.qty.loaded = l.qty.loaded ∧ l'.qty.total = l.qty.total

section Conserved

variable {s t u : State}

theorem conserved.lotLaw (h : conserved s t) (law : s.lotLaw) : t.lotLaw := by
  rw [lotLaw_iff] at law ⊢
  obtain ⟨lawful, distinct⟩ := law
  refine ⟨fun i l' hl' => ?_, fun i j l' m' hij hl' hm' => ?_⟩
  · obtain ⟨l, hl, number, loaded, total⟩ := h i l' hl'
    obtain ⟨balance, bound, nonzero⟩ := lawful i l hl
    exact ⟨by omega, by omega, number ▸ nonzero⟩
  · obtain ⟨l, hl, number, -⟩ := h i l' hl'
    obtain ⟨m, hm, number', -⟩ := h j m' hm'
    rw [number, number']
    exact distinct i j l m hij hl hm

theorem conserved_of_goods (h : Aspect.goods.kept s t) : conserved s t := by
  intro i l' hl'
  have same := h i
  rw [hl'] at same
  cases hl : s.lots.get i with
  | none => simp [hl] at same
  | some l =>
    simp only [hl, Option.map_some, Option.some.injEq, Lot.goods, Prod.mk.injEq] at same
    obtain ⟨number, qty, -⟩ := same
    exact ⟨l, rfl, number, by rw [qty], by rw [qty]⟩

theorem keeps.conserved {xs : List Aspect} (h : keeps xs s t) (untouched : .goods ∉ xs) : conserved s t :=
  conserved_of_goods (h .goods untouched)

theorem conserved.refl (s : State) : conserved s s := conserved_of_goods fun _ => rfl

theorem conserved.trans (first : conserved s t) (second : conserved t u) : conserved s u := by
  intro i l'' hl''
  obtain ⟨l', hl', number', loaded', total'⟩ := second i l'' hl''
  obtain ⟨l, hl, number, loaded, total⟩ := first i l' hl'
  exact ⟨l, hl, number'.trans number, loaded'.trans loaded, total'.trans total⟩

theorem conserved.foldl {α : Type} {f : State → α → State} (h : ∀ s a, conserved s (f s a)) (as : List α) (s : State) :
    conserved s (as.foldl f s) := by
  induction as generalizing s with
  | nil => exact conserved.refl s
  | cons a as ih => exact (h s a).trans (ih (f s a))

/-- Lots that are each changed by a function that keeps number and cartons, or freed. -/
theorem conserved_of_lots {f : Slot → Lot → Option Lot} (lots : ∀ i, t.lots.get i = (s.lots.get i).bind (f i))
    (same : ∀ i l l', f i l = some l' →
      l'.number = l.number ∧ l'.qty.loaded = l.qty.loaded ∧ l'.qty.total = l.qty.total) : conserved s t := by
  intro i l' hl'
  rw [lots] at hl'
  obtain ⟨l, hl, hf⟩ := Option.bind_eq_some_iff.1 hl'
  exact ⟨l, hl, same i l l' hf⟩

/-- No lots at all. -/
theorem conserved_of_none (h : ∀ i, t.lots.get i = none) : conserved s t := by
  intro i l' hl'
  simp [h] at hl'

/-- A change of one lot that keeps its number and its cartons. -/
theorem modLot_conserved_at (s : State) (i : Slot) {f : Lot → Lot} (h : ∀ l, s.lots.get i = some l →
    (f l).number = l.number ∧ (f l).qty.loaded = l.qty.loaded ∧ (f l).qty.total = l.qty.total) :
    conserved s (s.modLot i f) := by
  intro j l' hl'
  simp only [State.modLot_lots, get_modAt] at hl'
  split at hl'
  · next e =>
    subst e
    obtain ⟨l, hl, rfl⟩ := Option.map_eq_some_iff.1 hl'
    exact ⟨l, hl, h l hl⟩
  · exact ⟨l', hl', rfl, rfl, rfl⟩

/-- A movement of cartons within one lot. -/
theorem modLot_conserved (s : State) (i : Slot) {f : Lot → Lot} (number : ∀ l, (f l).number = l.number)
    {g : Quantities → Quantities} (qty : ∀ l, (f l).qty = g l.qty) (hg : Quantities.conserves g) :
    conserved s (s.modLot i f) :=
  modLot_conserved_at s i fun l _ => ⟨number l, by rw [qty]; exact (hg _).1, by rw [qty]; exact (hg _).2⟩

theorem judge_number (l : Lot) : l.judge.number = l.number := by unfold Lot.judge; split <;> rfl

theorem judge_qty (l : Lot) : l.judge.qty = l.qty := by unfold Lot.judge; split <;> rfl

end Conserved

/-! ### The commands that move cartons -/

variable (s : State)

theorem endOffer_conserved (j : HIndex) (h : Handoff) (last : HandoffState) : conserved s (s.endOffer j h last) :=
  ((modHandoff_keeps_keys s j _).conserved (by simp)).trans
    (modLot_conserved _ _ (by intro; rfl) (by intro; rfl) (takeBack_conserves h.q))

theorem resolve_conserved (j : HIndex) : conserved s (s.resolve j) := by
  unfold State.resolve
  split
  · split
    · exact endOffer_conserved s j _ _
    · exact (settle_keeps s j _).conserved (by simp)
    · exact conserved.refl s
  · exact conserved.refl s

theorem closeStop_conserved (n : StopNo) (st : Stop) : conserved s (s.closeStop n st) :=
  (((drainStop_keeps s n).conserved (by simp)).trans (conserved.foldl resolve_conserved st.offers _)).trans
    (conserved_of_goods fun _ => rfl)

theorem clearRetained_conserved : conserved s s.clearRetained :=
  conserved_of_none fun i => by simp [State.clearRetained]

theorem keepRetained_conserved (resumed : Bool) : conserved s (s.keepRetained resumed) := by
  have resolved : conserved s s.clampPools.resolveAll :=
    ((clampPools_keeps s).conserved (by simp)).trans (conserved.foldl resolve_conserved _ _)
  have kept (r : State) : conserved r
      (State.chargeGaps resumed { r with claims := r.claims.map Claim.atStart }).restartStopTimer := by
    have charged (t : State) : conserved t (t.chargeGaps resumed) :=
      conserved.foldl (fun u c => (chargeGap_keeps u resumed c).conserved (by simp)) _ t
    exact ((setClaims_keeps r _).conserved (by simp)).trans
      ((charged _).trans ((restartStopTimer_keeps _).conserved (by simp)))
  exact resolved.trans (kept _)

theorem startReady_conserved : conserved s (startReady s) := by
  unfold startReady
  split
  · next cause _ =>
    have retained : conserved s (s.setRetained cause) := by
      unfold State.setRetained
      split
      · exact keepRetained_conserved s _
      · exact clearRetained_conserved s
    exact retained.trans ((startAssessor_keeps _).conserved (by simp))
  · exact conserved.refl s

theorem mainPowerLoss_conserved : conserved s (mainPowerLoss s) := by
  unfold mainPowerLoss
  split
  · exact conserved.refl s
  · have cleared : conserved s (if s.marker then s else s.clearRetained) := by
      split
      · exact conserved.refl s
      · exact clearRetained_conserved s
    exact cleared

theorem backupSupplyLoss_conserved : conserved s (backupSupplyLoss s) := by
  have cleared : conserved s (if s.phase = .off then s.clearRetained else s) := by
    split
    · exact clearRetained_conserved s
    · exact conserved.refl s
  exact cleared

theorem ackTimerExpiry_conserved (j : HIndex) : conserved s (ackTimerExpiry j s) := by
  unfold ackTimerExpiry
  split
  · split
    · split
      · exact endOffer_conserved s j _ _
      · exact (settle_keeps s j _).conserved (by simp)
      · exact conserved.refl s
    · exact conserved.refl s
  · exact conserved.refl s

/-- No event makes or loses cartons. -/
theorem event_conserved (c : Instr) : conserved s (eventOf c s) := by
  by_cases touched : Aspect.goods ∈ touches c
  · cases c <;> simp [touches, startTouches, scanTouches, partyTouches] at touched
    case mainPowerLoss => exact mainPowerLoss_conserved s
    case startReady => exact startReady_conserved s
    case backupSupplyLoss => exact backupSupplyLoss_conserved s
    case ackTimerExpiry j => exact ackTimerExpiry_conserved s j
    all_goals exact conserved.refl s
  · exact (event_keeps s c).conserved touched

theorem actLotWriteOff_conserved (lot : Word) (q : Half) : conserved s (actLotWriteOff lot q s).state := by
  unfold actLotWriteOff
  split
  · exact conserved.refl s
  split
  · exact conserved.refl s
  next i l named =>
  split
  · exact conserved.refl s
  split
  · exact conserved.refl s
  · refine modLot_conserved_at s i fun m hm => ?_
    cases hm.symm.trans (lotNamed_some named).1
    rw [judge_number, judge_qty]
    exact ⟨rfl, writeOff_conserves q.toNat l.qty⟩

theorem retire_conserved (i : Slot) (l : Lot) : conserved s (s.retire i l) := by
  refine conserved_of_lots (f := fun k m => if k = i then none else some m) (fun k => ?_) fun k m m' h => ?_
  · by_cases hk : k = i <;> simp [State.retire, State.freeClaims, hk]
  · by_cases hk : k = i <;> simp [hk] at h
    subst h
    exact ⟨rfl, rfl, rfl⟩

theorem actLotRetire_conserved (lot : Word) (force : Byte) : conserved s (actLotRetire lot force s).state := by
  unfold actLotRetire
  split
  · exact conserved.refl s
  split
  · exact conserved.refl s
  split
  · exact conserved.refl s
  split
  · exact conserved.refl s
  split
  · exact conserved.refl s
  split
  · exact conserved.refl s
  · exact retire_conserved s _ _

theorem actVanReturn_conserved : conserved s (actVanReturn s).state := by
  unfold actVanReturn
  split
  · exact conserved.refl s
  · refine conserved_of_lots (f := fun _ l => some (l.bringBack s.seconds)) (fun i => ?_) fun i l l' h => ?_
    · simp only [reply, State.mapLots_lots, get_mapV]
      cases s.lots.get i <;> rfl
    · cases h
      unfold Lot.bringBack
      split
      · exact ⟨rfl, bringBack_conserves l.qty⟩
      · exact ⟨rfl, rfl, rfl⟩

theorem actHandoffOffer_conserved (lot : Word) (q : Half) : conserved s (actHandoffOffer lot q s).state := by
  unfold actHandoffOffer
  split
  · exact conserved.refl s
  split
  · exact conserved.refl s
  split
  · exact conserved.refl s
  split
  · exact conserved.refl s
  next i l named =>
  split
  · exact conserved.refl s
  split
  · exact conserved.refl s
  next j _ =>
  split
  · exact conserved.refl s
  · have offered : conserved s (s.modLot i fun _ =>
        { l.move (Quantities.offer q.toNat) with handoffs := l.handoffs ++ [j] }) := by
      refine modLot_conserved_at s i fun m hm => ?_
      cases hm.symm.trans (lotNamed_some named).1
      exact ⟨rfl, offer_conserves q.toNat l.qty⟩
    rw [modLot_some _ (lotNamed_some named).1] at offered
    exact offered

theorem actHandoffAccept_conserved (i : Byte) (code : Word) (a : Half) (cond : Byte) :
    conserved s (actHandoffAccept i code a cond s).state := by
  unfold actHandoffAccept
  split
  · split
    · exact conserved.refl s
    next h _ =>
    split
    · exact conserved.refl s
    split
    · exact conserved.refl s
    split
    · exact (modHandoff_keeps_keys s _ _).conserved (by simp)
    split
    · exact ((modHandoff_keeps_keys s _ _).conserved (by simp)).trans
        (modLot_conserved _ _ (by intro; rfl) (by intro; rfl) (takeBack_conserves h.q))
    split
    · exact conserved.refl s
    · exact ((modHandoff_keeps_keys s _ _).conserved (by simp)).trans
        ((modLot_conserved _ _ (by intro l; exact judge_number _) (by intro l; exact judge_qty _)
          (answer_conserves h.q a.toNat)).trans
          ((post_keeps _ _).conserved (by simp)))
  · exact conserved.refl s

theorem actHandoffWithdraw_conserved (i : Byte) : conserved s (actHandoffWithdraw i s).state := by
  unfold actHandoffWithdraw
  split
  · exact conserved.refl s
  split
  · exact conserved.refl s
  split
  · exact endOffer_conserved s _ _ _
  all_goals exact conserved.refl s

theorem actStopClose_conserved : conserved s (actStopClose s).state := by
  unfold actStopClose
  split
  · exact conserved.refl s
  · exact closeStop_conserved s _ _

/-- LOT_LOAD enters a lot whose number no slot holds, with all its cartons on board. -/
theorem actLotLoad_lotLaw (law : s.lotLaw) (lot : Word) (k c : Byte) (q : Half) :
    (actLotLoad lot k c q s).state.lotLaw := by
  unfold actLotLoad
  split
  · exact law
  split
  · split
    · exact law
    next operands =>
    split
    · exact law
    next unnamed =>
    split
    · exact law
    · next i _ =>
      have absent := lotNamed_none.1 (Option.not_isSome_iff_eq_none.1 unnamed)
      rw [lotLaw_iff] at law ⊢
      obtain ⟨lawful, distinct⟩ := law
      simp only [reply, get_setAt]
      refine ⟨fun j l hl => ?_, fun i1 i2 l m hij hl hm => ?_⟩
      · split at hl
        · obtain rfl := Option.some.inj hl
          exact ⟨by simp [Lot.load, Quantities.load, Quantities.total], Nat.le_of_lt_succ q.isLt,
            fun h => operands (.inl h)⟩
        · exact lawful j l hl
      · split at hl <;> split at hm
        · next h1 h2 => exact absurd (h1.trans h2.symm) hij
        · obtain rfl := Option.some.inj hl; exact (absent i2 m hm).symm
        · obtain rfl := Option.some.inj hm; exact absent i1 l hl
        · exact distinct i1 i2 l m hij hl hm
  · exact law

/-- The rule of every request keeps the law of the lot table. -/
theorem rule_lotLaw (c : Instr) (law : s.lotLaw) : (ruleOf c s).state.lotLaw := by
  by_cases touched : Aspect.goods ∈ touches c
  · cases c <;> simp [touches, startTouches, scanTouches, partyTouches] at touched
    case lotLoad lot k c q => exact actLotLoad_lotLaw s law lot k c q
    case lotWriteOff lot q => exact (actLotWriteOff_conserved s lot q).lotLaw law
    case lotRetire lot force => exact (actLotRetire_conserved s lot force).lotLaw law
    case vanReturn => exact (actVanReturn_conserved s).lotLaw law
    case stopClose => exact (actStopClose_conserved s).lotLaw law
    case handoffOffer lot q => exact (actHandoffOffer_conserved s lot q).lotLaw law
    case handoffAccept i code a cond => exact (actHandoffAccept_conserved s i code a cond).lotLaw law
    case handoffWithdraw i => exact (actHandoffWithdraw_conserved s i).lotLaw law
    all_goals exact law
  · exact ((rule_keeps s c).conserved touched).lotLaw law

theorem lotLaw_law : Law State.lotLaw where
  quiet h hs := (h.conserved (by simp)).lotLaw hs
  answer c s p kind answer tag hs :=
    ((respond_keeps_all p kind answer tag _).conserved (by simp)).lotLaw (rule_lotLaw s c hs)
  event c s hs := (event_conserved s c).lotLaw hs
  idle s hs := ((idle_keeps s).conserved (by simp)).lotLaw hs

end Sys2Proof.Machine

namespace Sys2Proof.Proofs

open Sys2Proof.Machine

/-- Settles O56: every command but LOT_LOAD conserves the cartons of every lot, and LOT_LOAD enters a lawful lot. -/
theorem lotLawKept : Obligations.LotLawKept := fun _ _ law step => lotLaw_law.step law step

end Sys2Proof.Proofs
end

section
/-!
PROOF. The law of the OPEN stop (R104): a handoff is OFFERED only by HANDOFF_OFFER, at the OPEN stop, and STOP_CLOSE
resolves every handoff that was offered there.
-/
namespace Sys2Proof.Machine

/-! ### The law in terms of what it reads -/

/-- A stop that is OPEN. -/
def State.isOpenStop (s : State) (n : StopNo) : Prop := ∃ st, s.stops.get n = some st ∧ st.state = .opened

/-- A handoff that is OFFERED, at stop `n`. -/
def State.isOffered (s : State) (j : HIndex) (n : StopNo) : Prop :=
  ∃ h, s.handoffs.get j = some h ∧ h.state = .offered ∧ h.stop = n

/-- A stop that lists a handoff among those offered at it. -/
def State.lists (s : State) (n : StopNo) (j : HIndex) : Prop := ∃ st, s.stops.get n = some st ∧ j ∈ st.offers

theorem openStopLaw_iff (s : State) : s.openStopLaw ↔
    (s.route.openStop.isSome = true → s.route.state = .dispatched) ∧
    (∀ n, s.route.openStop = some n ↔ s.isOpenStop n) ∧
    (∀ j n, s.isOffered j n → s.route.openStop = some n ∧ s.lists n j) := by
  have opened (n : StopNo) : (s.stops.get n).any (fun st => st.state == .opened) = true ↔ s.isOpenStop n := by
    simp [State.isOpenStop, Option.any_eq_true]
  have listed (n : StopNo) (j : HIndex) :
      ((s.stops.get n).any fun st => st.offers.contains j) = true ↔ s.lists n j := by
    simp [State.lists, Option.any_eq_true]
  refine and_congr_right fun _ => and_congr (forall_congr' fun n => by rw [opened]) (forall_congr' fun j => ?_)
  simp only [Option.all_eq_true, Bool.or_eq_true, Bool.and_eq_true, listed, beq_iff_eq, bne_iff_ne]
  constructor
  · rintro h n ⟨x, hx, offered, rfl⟩
    exact (h x hx).resolve_left fun ne => ne offered
  · intro h x hx
    by_cases offered : x.state = .offered
    · exact .inr (h x.stop ⟨x, hx, offered, rfl⟩)
    · exact .inl offered

/-- While no stop is OPEN no handoff is OFFERED. -/
theorem not_isOffered {s : State} (law : s.openStopLaw) (closed : s.route.openStop = none) (j : HIndex) (n : StopNo) :
    ¬ s.isOffered j n := by
  intro offered
  have := (((openStopLaw_iff s).1 law).2.2 j n offered).1
  simp [closed] at this

/-- While the route is not DISPATCHED no stop is OPEN. -/
theorem openStop_none {s : State} (law : s.openStopLaw) (idle : s.route.state ≠ .dispatched) :
    s.route.openStop = none := by
  by_contra h
  exact idle (law.1 (Option.isSome_iff_ne_none.2 h))

/-! ### Commands that offer nothing -/

/-- Route and stops are as the law reads them, and no handoff is OFFERED in `t` that was not in `s`. -/
structure NoneOffered (s t : State) : Prop where
  route : t.route = s.route
  stops : Aspect.stopKeys.kept s t
  offers : ∀ j n, t.isOffered j n → s.isOffered j n

section NoneOffered

variable {s t u : State}

theorem isOpenStop_of_keys (h : Aspect.stopKeys.kept s t) (n : StopNo) : t.isOpenStop n ↔ s.isOpenStop n := by
  have same := h n
  unfold State.isOpenStop
  cases hs : s.stops.get n <;> cases ht : t.stops.get n <;> simp [hs, ht, Stop.keys] at same ⊢
  rw [same.1]

theorem lists_of_keys (h : Aspect.stopKeys.kept s t) (n : StopNo) (j : HIndex) : t.lists n j ↔ s.lists n j := by
  have same := h n
  unfold State.lists
  cases hs : s.stops.get n <;> cases ht : t.stops.get n <;> simp [hs, ht, Stop.keys] at same ⊢
  rw [same.2.1]

theorem isOffered_of_keys (h : Aspect.handKeys.kept s t) (j : HIndex) (n : StopNo) :
    t.isOffered j n → s.isOffered j n := by
  have same := h j
  unfold State.isOffered
  cases hs : s.handoffs.get j <;> cases ht : t.handoffs.get j <;> simp [hs, ht, Handoff.keys] at same ⊢
  rw [same.1, same.2]
  exact And.intro

theorem NoneOffered.law (h : NoneOffered s t) (law : s.openStopLaw) : t.openStopLaw := by
  rw [openStopLaw_iff] at law ⊢
  obtain ⟨dispatched, opened, offered⟩ := law
  rw [h.route]
  exact ⟨dispatched, fun n => (opened n).trans (isOpenStop_of_keys h.stops n).symm, fun j n hj =>
    ⟨(offered j n (h.offers j n hj)).1, (lists_of_keys h.stops n j).2 (offered j n (h.offers j n hj)).2⟩⟩

theorem NoneOffered.trans (first : NoneOffered s t) (second : NoneOffered t u) : NoneOffered s u where
  route := second.route.trans first.route
  stops n := (second.stops n).trans (first.stops n)
  offers j n h := first.offers j n (second.offers j n h)

theorem keeps.noneOffered {xs : List Aspect} (h : keeps xs s t)
    (untouched : .route ∉ xs ∧ .stopKeys ∉ xs ∧ .handKeys ∉ xs) : NoneOffered s t where
  route := h .route untouched.1
  stops := h .stopKeys untouched.2.1
  offers := isOffered_of_keys (h .handKeys untouched.2.2)

theorem NoneOffered.refl (s : State) : NoneOffered s s := (keeps.refl [] s).noneOffered (by simp)

/-- A handoff that is changed to a state other than OFFERED. -/
theorem modHandoff_noneOffered (s : State) (j : HIndex) {f : Handoff → Handoff} (ended : ∀ h, (f h).state ≠ .offered) :
    NoneOffered s (s.modHandoff j f) where
  route := rfl
  stops _ := rfl
  offers k n := by
    rintro ⟨h, hh, offered, stop⟩
    simp only [State.modHandoff_handoffs, get_modAt] at hh
    split at hh
    · obtain ⟨x, -, rfl⟩ := Option.map_eq_some_iff.1 hh
      exact absurd offered (ended x)
    · exact ⟨h, hh, offered, stop⟩

theorem NoneOffered.foldl {α : Type} {f : State → α → State} (h : ∀ s a, NoneOffered s (f s a)) (as : List α)
    (s : State) : NoneOffered s (as.foldl f s) := by
  induction as generalizing s with
  | nil => exact NoneOffered.refl s
  | cons a as ih => exact (h s a).trans (ih (f s a))

end NoneOffered

variable (s : State)

theorem endOffer_noneOffered (j : HIndex) (h : Handoff) {last : HandoffState} (ended : last ≠ .offered) :
    NoneOffered s (s.endOffer j h last) :=
  (modHandoff_noneOffered s j fun _ => ended).trans ((modLot_keeps_goods _ _ _).noneOffered (by simp))

theorem settle_noneOffered (j : HIndex) (copied : Bool) : NoneOffered s (s.settle j copied) :=
  modHandoff_noneOffered s j fun _ => by simp

theorem resolve_noneOffered (j : HIndex) : NoneOffered s (s.resolve j) := by
  unfold State.resolve
  split
  · split
    · exact endOffer_noneOffered s j _ (by simp)
    · exact settle_noneOffered s j _
    · exact NoneOffered.refl s
  · exact NoneOffered.refl s

theorem actLotRetire_noneOffered (lot : Word) (force : Byte) : NoneOffered s (actLotRetire lot force s).state := by
  have h := actLotRetire_keeps s lot force
  refine ⟨h .route (by simp), h .stopKeys (by simp), fun j n => ?_⟩
  have freed : (actLotRetire lot force s).state.handoffs.get j = s.handoffs.get j ∨
      (actLotRetire lot force s).state.handoffs.get j = none := by
    have retired (i : Slot) (l : Lot) : (s.retire i l).handoffs.get j = s.handoffs.get j ∨
        (s.retire i l).handoffs.get j = none := by
      simp only [State.retire, State.freeClaims, get_freeHandoffs]
      split
      · exact .inr rfl
      · exact .inl rfl
    unfold actLotRetire
    repeat' split
    all_goals first
      | exact .inl rfl
      | exact retired _ _
  rintro ⟨x, hx, hstate⟩
  rcases freed with e | e
  · exact ⟨x, e ▸ hx, hstate⟩
  · simp [e] at hx

theorem actHandoffAccept_noneOffered (i : Byte) (code : Word) (a : Half) (cond : Byte) :
    NoneOffered s (actHandoffAccept i code a cond s).state := by
  unfold actHandoffAccept
  split
  · split
    · exact NoneOffered.refl s
    split
    · exact NoneOffered.refl s
    split
    · exact NoneOffered.refl s
    split
    · exact (modHandoff_keeps s _ (by intro; rfl)).noneOffered (by simp)
    split
    · exact (modHandoff_noneOffered s _ (by intro; simp)).trans ((modLot_keeps_goods _ _ _).noneOffered (by simp))
    split
    · exact NoneOffered.refl s
    · exact (modHandoff_noneOffered s _ (by intro; simp)).trans
        (((modLot_keeps_goods _ _ _).noneOffered (by simp)).trans
        ((post_keeps _ _).noneOffered (by simp)))
  · exact NoneOffered.refl s

theorem actHandoffCopied_noneOffered (i : Byte) (v : Half) : NoneOffered s (actHandoffCopied i v s).state := by
  unfold actHandoffCopied
  split
  · exact NoneOffered.refl s
  split
  · exact NoneOffered.refl s
  split
  · exact NoneOffered.refl s
  dsimp only
  split
  · exact settle_noneOffered s _ _
  · exact (modHandoff_keeps s _ (by intro; rfl)).noneOffered (by simp)

theorem actHandoffWithdraw_noneOffered (i : Byte) : NoneOffered s (actHandoffWithdraw i s).state := by
  unfold actHandoffWithdraw
  split
  · exact NoneOffered.refl s
  split
  · exact NoneOffered.refl s
  split
  · exact endOffer_noneOffered s _ _ (by simp)
  all_goals exact NoneOffered.refl s

theorem ackTimerExpiry_noneOffered (j : HIndex) : NoneOffered s (ackTimerExpiry j s) := by
  unfold ackTimerExpiry
  split
  · split
    · split
      · exact (endOffer_noneOffered s j _ (by simp)).trans ((post_keeps _ _).noneOffered (by simp))
      · exact settle_noneOffered s j _
      · exact NoneOffered.refl s
    · exact NoneOffered.refl s
  · exact NoneOffered.refl s

theorem keepRetained_noneOffered (resumed : Bool) : NoneOffered s (s.keepRetained resumed) := by
  have resolved : NoneOffered s s.clampPools.resolveAll :=
    ((clampPools_keeps s).noneOffered (by simp)).trans (NoneOffered.foldl resolve_noneOffered _ _)
  have kept (r : State) : NoneOffered r
      (State.chargeGaps resumed { r with claims := r.claims.map Claim.atStart }).restartStopTimer := by
    have charged (t : State) : NoneOffered t (t.chargeGaps resumed) :=
      NoneOffered.foldl (fun u c => (chargeGap_keeps u resumed c).noneOffered (by simp)) _ t
    exact ((setClaims_keeps r _).noneOffered (by simp)).trans
      ((charged _).trans ((restartStopTimer_keeps _).noneOffered (by simp)))
  exact resolved.trans (kept _)

/-! ### Starts and supplies -/

/-- With the retained memory cleared there is no route, no stop and no handoff. -/
theorem openStopLaw_of_cleared {t : State} (route : t.route = Route.fresh) (stops : ∀ n, t.stops.get n = none)
    (handoffs : ∀ j, t.handoffs.get j = none) : t.openStopLaw := by
  simp [State.openStopLaw, route, stops, handoffs, Route.fresh]

theorem clearRetained_openStopLaw : s.clearRetained.openStopLaw :=
  openStopLaw_of_cleared rfl (fun n => by simp [State.clearRetained]) fun j => by simp [State.clearRetained]

theorem startReady_openStopLaw (law : s.openStopLaw) : (startReady s).openStopLaw := by
  unfold startReady
  split
  · next cause _ =>
    have retained : (s.setRetained cause).openStopLaw := by
      unfold State.setRetained
      split
      · exact (keepRetained_noneOffered s _).law law
      · exact clearRetained_openStopLaw s
    exact ((startAssessor_keeps _).noneOffered (by simp)).law retained
  · exact law

theorem mainPowerLoss_openStopLaw (law : s.openStopLaw) : (mainPowerLoss s).openStopLaw := by
  have cleared : (if s.marker then s else s.clearRetained).openStopLaw := by
    split
    · exact law
    · exact clearRetained_openStopLaw s
  unfold mainPowerLoss
  split
  · exact law
  · exact cleared

theorem backupSupplyLoss_openStopLaw (law : s.openStopLaw) : (backupSupplyLoss s).openStopLaw := by
  have cleared : (if s.phase = .off then s.clearRetained else s).openStopLaw := by
    split
    · exact clearRetained_openStopLaw s
    · exact law
  exact cleared

/-! ### Routes and stops -/

theorem actRouteBegin_openStopLaw (law : s.openStopLaw) (n : Half) : (actRouteBegin n s).state.openStopLaw := by
  unfold actRouteBegin
  split
  · next ended =>
    have closed := openStop_none law (by rcases ended with h | h <;> simp [h])
    rw [openStopLaw_iff]
    refine ⟨by simp [reply], fun m => by simp [reply, State.isOpenStop], fun j m offered => ?_⟩
    exact absurd offered (not_isOffered law closed j m)
  · exact law

theorem actStopLoad_openStopLaw (law : s.openStopLaw) (n : Byte) (x m : Word) (b l : Half)
    (planned : List (Word × Half)) : (actStopLoad n x m b l planned s).state.openStopLaw := by
  unfold actStopLoad
  split
  · exact law
  next loading =>
  split
  · exact law
  next n _ =>
  split
  · exact law
  split
  · exact law
  split
  · exact law
  · have closed := openStop_none law (by simp at loading; simp [loading])
    have offered := not_isOffered law closed
    rw [openStopLaw_iff] at law ⊢
    obtain ⟨dispatched, opened, -⟩ := law
    refine ⟨dispatched, fun k => (opened k).trans ?_, fun j k h => absurd h (offered j k)⟩
    simp only [State.isOpenStop, reply, get_setAt]
    split
    · next e =>
      subst e
      refine iff_of_false (fun h => ?_) (by simp [Stop.load])
      have := (opened k).2 h
      simp [closed] at this
    · exact Iff.rfl

theorem actDispatch_openStopLaw (law : s.openStopLaw) : (actDispatch s).state.openStopLaw := by
  unfold actDispatch
  split
  · exact law
  split
  · exact law
  split
  · exact law
  dsimp only
  split
  · exact law
  · exact ⟨fun _ => rfl, law.2.1, law.2.2⟩

theorem actVanReturn_openStopLaw (law : s.openStopLaw) : (actVanReturn s).state.openStopLaw := by
  unfold actVanReturn
  split
  · exact law
  · next h =>
    have closed : s.route.openStop = none := by simpa using fun h' => h (.inr h')
    have offered := not_isOffered law closed
    rw [openStopLaw_iff] at law ⊢
    obtain ⟨-, opened, -⟩ := law
    refine ⟨by simp [reply, closed], fun k => (opened k).trans ?_, fun j k h => absurd h (offered j k)⟩
    simp only [State.isOpenStop, reply, State.mapLots_stops, get_mapV, Option.map_eq_some_iff]
    have skip (st : Stop) : st.skip.state = .opened ↔ st.state = .opened := by
      unfold Stop.skip
      split <;> simp_all
    constructor
    · rintro ⟨st, hst, e⟩; exact ⟨st.skip, ⟨st, hst, rfl⟩, (skip st).2 e⟩
    · rintro ⟨_, ⟨st, hst, rfl⟩, e⟩; exact ⟨st, hst, (skip st).1 e⟩

theorem actStopOpen_openStopLaw (law : s.openStopLaw) (n : Byte) : (actStopOpen n s).state.openStopLaw := by
  unfold actStopOpen
  split
  · exact law
  next n _ =>
  split
  · exact law
  next dispatched =>
  split
  · exact law
  next st stop =>
  split
  · exact law
  · next h =>
    have closed : s.route.openStop = none := by simpa using fun h' => h (.inl h')
    have offered := not_isOffered law closed
    rw [openStopLaw_iff] at law ⊢
    obtain ⟨-, opened, -⟩ := law
    refine ⟨fun _ => not_not.1 dispatched, fun k => ?_, fun j k h => absurd h (offered j k)⟩
    simp only [State.isOpenStop, reply, State.openStop, State.modStop_stops, get_modAt, Option.some.injEq]
    split
    · next e => subst e; simp [stop]
    · next e =>
      refine iff_of_false (fun h => e h.symm) fun h => ?_
      have := (opened k).2 h
      simp [closed] at this

/-- A close resolves every handoff that was offered at the stop. -/
theorem closeStop_openStopLaw (law : s.openStopLaw) {n : StopNo} {st : Stop} (isOpen : s.route.openStop = some n)
    (stop : s.stops.get n = some st) : (s.closeStop n st).openStopLaw := by
  have drained : NoneOffered s (s.drainStop n) := (drainStop_keeps s n).noneOffered (by simp)
  have law' := drained.law law
  let t := st.offers.foldl State.resolve (s.drainStop n)
  have resolved := resolve_list st.offers (s.drainStop n)
  have none : NoneOffered s t := drained.trans (NoneOffered.foldl resolve_noneOffered _ _)
  rw [openStopLaw_iff] at law ⊢
  obtain ⟨-, opened, offered⟩ := law
  refine ⟨fun h => by simp [State.closeStop] at h, fun k => iff_of_false (by simp [State.closeStop]) ?_, ?_⟩
  · simp only [State.isOpenStop, State.closeStop, State.modStop_stops, get_modAt]
    split
    · rintro ⟨x, hx, e⟩
      obtain ⟨y, -, rfl⟩ := Option.map_eq_some_iff.1 hx
      simp [Stop.close] at e
    · next ne =>
      intro h
      have := (opened k).2 ((isOpenStop_of_keys none.stops k).1 h)
      exact ne (Option.some.inj (this.symm.trans isOpen))
  · rintro j k ⟨x, hx, state, rfl⟩
    change t.handoffs.get j = some x at hx
    have before : s.isOffered j x.stop := none.offers j x.stop ⟨x, hx, state, rfl⟩
    obtain ⟨at_n, st', hst', listed⟩ := offered j x.stop before
    rw [isOpen] at at_n
    rw [← Option.some.inj at_n, stop] at hst'
    cases hst'
    rw [resolved.hand] at hx
    obtain ⟨y, -, rfl⟩ := Option.map_eq_some_iff.1 hx
    simp only [listed, if_true] at state
    exact absurd state (resolved_not_offered _ _)

theorem currentStop_some {n : StopNo} {st : Stop} :
    s.currentStop = some (n, st) ↔ s.route.openStop = some n ∧ s.stops.get n = some st := by
  unfold State.currentStop
  cases s.route.openStop with
  | none => simp
  | some m =>
    simp only [Option.map_eq_some_iff, Prod.mk.injEq, Option.some.injEq]
    constructor
    · rintro ⟨x, hx, rfl, rfl⟩; exact ⟨rfl, hx⟩
    · rintro ⟨rfl, hx⟩; exact ⟨st, hx, rfl, rfl⟩

theorem actStopClose_openStopLaw (law : s.openStopLaw) : (actStopClose s).state.openStopLaw := by
  unfold actStopClose
  split
  · exact law
  · next n st current =>
    obtain ⟨isOpen, stop⟩ := (currentStop_some s).1 current
    exact closeStop_openStopLaw s law isOpen stop

/-- An offer is made at the OPEN stop, which lists it. -/
theorem actHandoffOffer_openStopLaw (law : s.openStopLaw) (lot : Word) (q : Half) :
    (actHandoffOffer lot q s).state.openStopLaw := by
  unfold actHandoffOffer
  split
  · exact law
  next n st current =>
  split
  · exact law
  next dispatched =>
  split
  · exact law
  split
  · exact law
  next i l _ =>
  split
  · exact law
  split
  · exact law
  next j free =>
  split
  · exact law
  · obtain ⟨isOpen, stop⟩ := (currentStop_some s).1 current
    rw [openStopLaw_iff] at law ⊢
    obtain ⟨dispatched, opened, offered⟩ := law
    refine ⟨dispatched, fun m => (opened m).trans ?_, ?_⟩
    · simp only [State.isOpenStop, reply, State.modStop_stops, get_modAt]
      split
      · next e =>
        subst e
        simp [stop]
      · rfl
    · rintro k m ⟨x, hx, state, rfl⟩
      simp only [reply, State.modStop_handoffs, get_setAt] at hx
      simp only [State.lists, reply, State.modStop_route, State.modStop_stops, get_modAt]
      split at hx
      · next e =>
        subst e
        obtain rfl := Option.some.inj hx
        exact ⟨isOpen, { st with offers := st.offers ++ [k] }, by simp [newHandoff, stop], by simp⟩
      · obtain ⟨atStop, y, hy, mem⟩ := offered k x.stop ⟨x, hx, state, rfl⟩
        refine ⟨atStop, ?_⟩
        split
        · exact ⟨_, by rw [hy]; rfl, by simp [mem]⟩
        · exact ⟨y, hy, mem⟩

/-! ### Every command -/

theorem rule_openStopLaw (c : Instr) (law : s.openStopLaw) : (ruleOf c s).state.openStopLaw := by
  by_cases untouched : .route ∉ touches c ∧ .stopKeys ∉ touches c ∧ .handKeys ∉ touches c
  · exact ((rule_keeps s c).noneOffered untouched).law law
  · cases c <;> simp [touches, startTouches, scanTouches, partyTouches, retainedTouches] at untouched
    case lotRetire lot force => exact (actLotRetire_noneOffered s lot force).law law
    case routeBegin n => exact actRouteBegin_openStopLaw s law n
    case stopLoad n x m b l planned => exact actStopLoad_openStopLaw s law n x m b l planned
    case dispatch => exact actDispatch_openStopLaw s law
    case vanReturn => exact actVanReturn_openStopLaw s law
    case stopOpen n => exact actStopOpen_openStopLaw s law n
    case stopClose => exact actStopClose_openStopLaw s law
    case handoffOffer lot q => exact actHandoffOffer_openStopLaw s law lot q
    case handoffAccept i code a cond => exact (actHandoffAccept_noneOffered s i code a cond).law law
    case handoffCopied i v => exact (actHandoffCopied_noneOffered s i v).law law
    case handoffWithdraw i => exact (actHandoffWithdraw_noneOffered s i).law law
    all_goals exact law

theorem event_openStopLaw (c : Instr) (law : s.openStopLaw) : (eventOf c s).openStopLaw := by
  by_cases untouched : .route ∉ touches c ∧ .stopKeys ∉ touches c ∧ .handKeys ∉ touches c
  · exact ((event_keeps s c).noneOffered untouched).law law
  · cases c <;> simp [touches, startTouches, scanTouches, partyTouches, retainedTouches] at untouched
    case ackTimerExpiry j => exact (ackTimerExpiry_noneOffered s j).law law
    case startReady => exact startReady_openStopLaw s law
    case mainPowerLoss => exact mainPowerLoss_openStopLaw s law
    case backupSupplyLoss => exact backupSupplyLoss_openStopLaw s law
    all_goals exact law

theorem openStopLaw_law : Law State.openStopLaw where
  quiet h hs := (h.noneOffered (by simp)).law hs
  answer c s p kind answer tag hs :=
    ((respond_keeps_all p kind answer tag _).noneOffered (by simp)).law (rule_openStopLaw s c hs)
  event c s hs := event_openStopLaw s c hs
  idle s hs := ((idle_keeps s).noneOffered (by simp)).law hs

end Sys2Proof.Machine

namespace Sys2Proof.Proofs

open Sys2Proof.Machine

/-- Settles O60: HANDOFF_OFFER alone makes a handoff OFFERED, and STOP_CLOSE resolves all that its stop lists. -/
theorem openStopLawKept : Obligations.OpenStopLawKept := fun _ _ law step => openStopLaw_law.step law step

end Sys2Proof.Proofs
end

section
/-!
PROOF. The law of the claim table: a lodged claim takes a number that no entry holds, a decision sets verdict and
figures, and the assessor works on every claim that is ASSESSING.
-/
namespace Sys2Proof.Machine

/-! ### The number of a lodged claim (R143) -/

theorem nextNumber_range (n : Nat) : 1 ≤ nextNumber n ∧ (n ≤ 65535 → nextNumber n ≤ 65535) := by
  unfold nextNumber
  split <;> omega

theorem nextNumber_iterate {n : Nat} (low : 1 ≤ n) (high : n ≤ 65535) (k : Nat) :
    nextNumber^[k] n = (n - 1 + k) % 65535 + 1 := by
  induction k with
  | zero => simp only [Function.iterate_zero, id_eq]; omega
  | succ k ih =>
    rw [Function.iterate_succ_apply', ih, nextNumber]
    split <;> omega

theorem freeNumber_range {n : Nat} (low : 1 ≤ n) (high : n ≤ 65535) (claims : List Claim) (k : Nat) :
    1 ≤ freeNumber claims k n ∧ freeNumber claims k n ≤ 65535 := by
  induction k generalizing n with
  | zero => exact ⟨low, high⟩
  | succ k ih =>
    unfold freeNumber
    split
    · exact ih (nextNumber_range n).1 ((nextNumber_range n).2 high)
    · exact ⟨low, high⟩

/-- If the number found is held, so is every number that was passed. -/
theorem held_of_freeNumber_held {claims : List Claim} {k n : Nat}
    (held : freeNumber claims k n ∈ claims.map Claim.number) :
    ∀ i ≤ k, nextNumber^[i] n ∈ claims.map Claim.number := by
  induction k generalizing n with
  | zero =>
    intro i hi
    obtain rfl : i = 0 := by omega
    exact held
  | succ k ih =>
    unfold freeNumber at held
    split at held
    · next first =>
      intro i hi
      cases i with
      | zero => simpa using first
      | succ i => exact ih held i (by omega)
    · next absent =>
      exact absurd held (by simpa using absent)

/-- Among more numbers than there are entries, one is free. -/
theorem freeNumber_fresh {claims : List Claim} {k n : Nat} (low : 1 ≤ n) (high : n ≤ 65535)
    (room : claims.length ≤ k) (short : k < 65535) : freeNumber claims k n ∉ claims.map Claim.number := by
  intro held
  have passed := held_of_freeNumber_held held
  have inj : Set.InjOn (fun i => nextNumber^[i] n) (Finset.range (k + 1)) := by
    intro i hi j hj e
    simp only [Finset.coe_range, Set.mem_Iio] at hi hj
    simp only [nextNumber_iterate low high] at e
    omega
  have few := Finset.card_le_card (s := (Finset.range (k + 1)).image fun i => nextNumber^[i] n)
    (t := (claims.map Claim.number).toFinset) (by
      intro x hx
      obtain ⟨i, hi, rfl⟩ := Finset.mem_image.1 hx
      exact List.mem_toFinset.2 (passed i (Nat.le_of_lt_succ (Finset.mem_range.1 hi))))
  rw [Finset.card_image_of_injOn inj, Finset.card_range] at few
  have := (claims.map Claim.number).toFinset_card_le
  simp at this
  omega

theorem freeNumber_of_free {claims : List Claim} {n : Nat} (k : Nat) (free : n ∉ claims.map Claim.number) :
    freeNumber claims k n = n := by
  cases k with
  | zero => rfl
  | succ k =>
    unfold freeNumber
    rw [if_neg (by simpa using free)]

/-! ### The table and the assessor -/

/-- A DECIDED claim has its verdict and figures (R150). -/
def Claim.judged (c : Claim) : Prop := c.state = .decided → c.verdict.isSome = true ∧ c.figures.isSome = true

/-- What the law asks of the claims and the next claim number. -/
structure ClaimTable (claims : List Claim) (next : Nat) : Prop where
  room : claims.length ≤ 16
  distinct : (claims.map Claim.number).Nodup
  range : ∀ c ∈ claims, 1 ≤ c.number ∧ c.number ≤ 65535
  low : 1 ≤ next
  high : next ≤ 65535
  judged : ∀ c ∈ claims, c.judged

/-- Each ASSESSING claim is the one that the assessor works on (R147). -/
def Worked (claims : List Claim) (assessor : Option Assessment) : Prop :=
  ∀ c ∈ claims, c.state = .assessing → ∃ a, assessor = some a ∧ a.claim = some c.number ∧ a.discard = false

theorem claimLaw_iff (s : State) :
    s.claimLaw ↔ ClaimTable s.claims s.nextClaim ∧ (s.phase = .ready → Worked s.claims s.assessor) := by
  have worked : Worked s.claims s.assessor ↔ ∀ c ∈ s.claims, c.state = .assessing →
      s.assessor.any (fun a => a.claim == some c.number && !a.discard) = true := by
    simp [Worked, Option.any_eq_true]
  rw [worked]
  exact ⟨fun ⟨h1, h2, h3, h4, h5, h6, h7⟩ => ⟨⟨h1, h2, h3, h4, h5, h6⟩, h7⟩,
    fun ⟨⟨h1, h2, h3, h4, h5, h6⟩, h7⟩ => ⟨h1, h2, h3, h4, h5, h6, h7⟩⟩

section Table

variable {claims : List Claim} {next : Nat} {assessor : Option Assessment}

/-- A change that keeps every number and leaves a DECIDED claim judged. -/
theorem ClaimTable.map (h : ClaimTable claims next) {f : Claim → Claim} (number : ∀ c, (f c).number = c.number)
    (judged : ∀ c, c.judged → (f c).judged) : ClaimTable (claims.map f) next where
  room := by simpa using h.room
  distinct := by simpa [List.map_map, Function.comp_def, number] using h.distinct
  range := by
    simp only [List.forall_mem_map, number]
    exact h.range
  low := h.low
  high := h.high
  judged := by
    simp only [List.forall_mem_map]
    exact fun c hc => judged c (h.judged c hc)

theorem ClaimTable.filter (h : ClaimTable claims next) (p : Claim → Bool) : ClaimTable (claims.filter p) next where
  room := (List.length_filter_le _ _).trans h.room
  distinct := h.distinct.sublist (List.filter_sublist.map _)
  range c hc := h.range c (List.mem_of_mem_filter hc)
  low := h.low
  high := h.high
  judged c hc := h.judged c (List.mem_of_mem_filter hc)

theorem ClaimTable.nil (low : 1 ≤ next) (high : next ≤ 65535) : ClaimTable [] next where
  room := by simp
  distinct := by simp
  range := by simp
  low := low
  high := high
  judged := by simp

/-- Two claims with one number are one claim. -/
theorem ClaimTable.eq_of_number (h : ClaimTable claims next) {c d : Claim} (hc : c ∈ claims) (hd : d ∈ claims)
    (number : c.number = d.number) : c = d := List.inj_on_of_nodup_map h.distinct hc hd number

/-- An IDLE assessor leaves no claim ASSESSING. -/
theorem Worked.not_assessing (h : Worked claims none) : ∀ c ∈ claims, c.state ≠ .assessing := by
  intro c hc e
  obtain ⟨a, ha, -⟩ := h c hc e
  cases ha

theorem worked_of_not_assessing (h : ∀ c ∈ claims, c.state ≠ .assessing) : Worked claims assessor :=
  fun c hc e => absurd e (h c hc)

/-- A change that makes no claim ASSESSING. -/
theorem Worked.map (h : Worked claims assessor) {f : Claim → Claim} (number : ∀ c, (f c).number = c.number)
    (assessing : ∀ c, (f c).state = .assessing → c.state = .assessing) : Worked (claims.map f) assessor := by
  intro c hc e
  obtain ⟨d, hd, rfl⟩ := List.mem_map.1 hc
  obtain ⟨a, ha, held, clear⟩ := h d hd (assessing d e)
  exact ⟨a, ha, by rw [number, held], clear⟩

end Table

/-! ### The operations on claims -/

section Operations

variable {s t : State}

theorem keeps.claimLaw {xs : List Aspect} (h : keeps xs s t)
    (untouched : .phase ∉ xs ∧ .claims ∉ xs ∧ .nextClaim ∉ xs ∧ .assessor ∉ xs) (law : s.claimLaw) : t.claimLaw := by
  have phase : t.phase = s.phase := h .phase untouched.1
  have claims : t.claims = s.claims := h .claims untouched.2.1
  have next : t.nextClaim = s.nextClaim := h .nextClaim untouched.2.2.1
  have assessor : t.assessor = s.assessor := h .assessor untouched.2.2.2
  rw [claimLaw_iff] at law ⊢
  rw [phase, claims, next, assessor]
  exact law

/-- Outside READY the law asks for the table alone. -/
theorem claimLaw_of_not_ready (table : ClaimTable s.claims s.nextClaim) (h : s.phase ≠ .ready) : s.claimLaw :=
  (claimLaw_iff s).2 ⟨table, fun e => absurd e h⟩

/-- A change of one claim that keeps its number, makes it no claim ASSESSING, and leaves it judged. -/
theorem modClaim_claimLaw (law : s.claimLaw) (n : Nat) {f : Claim → Claim} (number : ∀ c, (f c).number = c.number)
    (judged : ∀ c, c.judged → (f c).judged) (assessing : ∀ c, (f c).state = .assessing → c.state = .assessing) :
    (s.modClaim n f).claimLaw := by
  rw [claimLaw_iff] at law ⊢
  refine ⟨law.1.map (fun c => ?_) (fun c hc => ?_), fun ready => (law.2 ready).map (fun c => ?_) (fun c => ?_)⟩
  all_goals split
  · exact number c
  · rfl
  · exact judged c hc
  · exact hc
  · exact number c
  · rfl
  · exact assessing c
  · exact id

theorem modOpenClaims_claimLaw (law : s.claimLaw) (j : HIndex) (f : Nat → Nat) : (s.modOpenClaims j f).claimLaw :=
  (modOpenClaims_keeps s j f).claimLaw (by simp) law

/-- Freed claims take the assessor's hold on them along; another claim has another number. -/
theorem freeClaims_claimLaw (law : s.claimLaw) (gone : Claim → Bool) : (s.freeClaims gone).claimLaw := by
  rw [claimLaw_iff] at law ⊢
  obtain ⟨table, worked⟩ := law
  refine ⟨table.filter _, fun ready c hc e => ?_⟩
  obtain ⟨mem, stays⟩ := List.mem_filter.1 hc
  obtain ⟨a, busy, held, clear⟩ := worked ready c mem e
  have unfreed : (s.claims.any fun d => d.number == c.number && gone d) = false := by
    simp only [List.any_eq_false, Bool.and_eq_true, beq_iff_eq, not_and]
    intro d hd number
    rw [table.eq_of_number hd mem number]
    simpa using stays
  refine ⟨_, congrArg (Option.map _) busy, ?_, clear⟩
  simp only [held, Option.filter_some, unfreed, Bool.not_false, if_true]

/-- The assessor starts on the claim that it makes ASSESSING. -/
theorem startAssessor_claimLaw (law : s.claimLaw) : s.startAssessor.claimLaw := by
  unfold State.startAssessor
  split
  next c idle first =>
    split
    · next a copies =>
      have held : a.claim = some c.number ∧ a.discard = false := by
        unfold State.evidence at copies
        repeat' split at copies
        all_goals cases copies
        exact ⟨rfl, rfl⟩
      rw [claimLaw_iff] at law ⊢
      obtain ⟨table, worked⟩ := law
      refine ⟨table.map (fun c => ?_) (fun c hc => ?_), fun ready x hx e => ?_⟩
      · split <;> rfl
      · split
        · exact nofun
        · exact hc
      · obtain ⟨d, hd, rfl⟩ := List.mem_map.1 hx
        split at e
        · next number =>
          exact ⟨a, rfl, by simp [number, held.1], held.2⟩
        · have stale := worked ready
          rw [idle] at stale
          exact absurd e (stale.not_assessing d hd)
    · exact law
  all_goals exact law

end Operations

/-! ### Requests and events -/

variable (s : State)

theorem actClaimLodge_claimLaw (law : s.claimLaw) (i : Byte) (code : Word) (q : Half) :
    (actClaimLodge i code q s).state.claimLaw := by
  unfold actClaimLodge
  split
  · exact law
  split
  · exact law
  split
  · exact law
  split
  · dsimp only
    split
    · exact law
    split
    · exact law
    split
    · exact law
    split
    · exact law
    split
    · exact law
    · next room =>
      refine startAssessor_claimLaw (modOpenClaims_claimLaw ?_ _ _)
      rw [claimLaw_iff] at law ⊢
      obtain ⟨table, worked⟩ := law
      have range := freeNumber_range table.low table.high s.claims 17
      have fresh := freeNumber_fresh (claims := s.claims) (k := 17) table.low table.high (by omega) (by omega)
      refine ⟨⟨by simp; omega, ?_, ?_, (nextNumber_range _).1, (nextNumber_range _).2 range.2, ?_⟩, fun ready => ?_⟩
      · simp only [List.map_append, List.map_cons, List.map_nil]
        exact table.distinct.append (List.nodup_singleton _) (by simpa using fresh)
      · simp only [List.forall_mem_append, List.forall_mem_singleton]
        exact ⟨table.range, range⟩
      · simp only [List.forall_mem_append, List.forall_mem_singleton]
        exact ⟨table.judged, nofun⟩
      · simp only [Worked, List.forall_mem_append, List.forall_mem_singleton]
        exact ⟨worked ready, nofun⟩
  · exact law

theorem withdrawClaim_claimLaw (law : s.claimLaw) (c : Claim) : (s.withdrawClaim c).claimLaw :=
  modOpenClaims_claimLaw (modClaim_claimLaw law _ (by intro; rfl) (by intro _ _; exact nofun)
  (by intro; exact nofun)) _ _

/-- Withdrawing the claim that is assessed leaves no claim ASSESSING. -/
theorem withdraw_discard_claimLaw (law : s.claimLaw) {c : Claim} (assessing : c.state = .assessing)
    (mem : c ∈ s.claims) : ((s.withdrawClaim c).discardAssessment c.number).claimLaw := by
  have law' := withdrawClaim_claimLaw s law c
  have claims : (s.withdrawClaim c).claims = s.claims.map fun x =>
      if x.number = c.number then { x with state := .withdrawn, endTime := some s.seconds } else x :=
    modOpenClaims_keeps (s.modClaim _ _) _ _ .claims (by simp)
  have phase : (s.withdrawClaim c).phase = s.phase := modOpenClaims_keeps (s.modClaim _ _) _ _ .phase (by simp)
  rw [claimLaw_iff] at law law' ⊢
  obtain ⟨table, worked⟩ := law
  refine ⟨law'.1, fun ready => worked_of_not_assessing fun x hx e => ?_⟩
  have ready : s.phase = .ready := phase ▸ ready
  change x ∈ (s.withdrawClaim c).claims at hx
  rw [claims] at hx
  obtain ⟨d, hd, rfl⟩ := List.mem_map.1 hx
  split at e
  · cases e
  · next other =>
    obtain ⟨a, ha, held, -⟩ := worked ready c mem assessing
    obtain ⟨b, hb, held', -⟩ := worked ready d hd e
    rw [ha] at hb
    cases hb
    exact other (Option.some.inj (held'.symm.trans held))

theorem claimNamed_some {n : Nat} {c : Claim} (h : s.claimNamed n = some c) : c ∈ s.claims ∧ c.number = n :=
  ⟨List.mem_of_find?_eq_some h, by simpa using List.find?_some h⟩

theorem actClaimWithdraw_claimLaw (law : s.claimLaw) (n : Half) : (actClaimWithdraw n s).state.claimLaw := by
  unfold actClaimWithdraw
  split
  · exact law
  split
  · exact law
  · next c named =>
    split
    · exact withdrawClaim_claimLaw s law c
    · next assessing => exact withdraw_discard_claimLaw s law assessing (claimNamed_some s named).1
    all_goals exact law

theorem actClaimFetch_claimLaw (law : s.claimLaw) (n : Half) : (actClaimFetch n s).state.claimLaw := by
  unfold actClaimFetch
  split
  · exact law
  split
  · exact law
  split
  · exact modClaim_claimLaw law _ (by intro; rfl) (by intro _ h; exact h) (by intro _ h; exact h)
  all_goals exact law

theorem actClaimClear_claimLaw (law : s.claimLaw) (n : Half) : (actClaimClear n s).state.claimLaw := by
  unfold actClaimClear
  split
  · exact law
  split
  · exact law
  split
  · exact law
  · exact freeClaims_claimLaw law _

theorem actLotRetire_claimLaw (law : s.claimLaw) (lot : Word) (force : Byte) :
    (actLotRetire lot force s).state.claimLaw := by
  unfold actLotRetire
  repeat' split
  all_goals first
    | exact law
    | exact freeClaims_claimLaw law _

/-- With the verdict applied no claim stays ASSESSING, so that the assessor may be IDLE. -/
theorem assessmentCompletion_claimLaw (law : s.claimLaw) : (assessmentCompletion s).claimLaw := by
  unfold assessmentCompletion
  split
  next a busy =>
    split
    · next ready =>
      refine startAssessor_claimLaw ?_
      obtain ⟨table, worked⟩ := (claimLaw_iff s).1 law
      have held : ∀ c ∈ s.claims, c.state = .assessing → a.claim = some c.number ∧ a.discard = false := by
        intro c hc e
        obtain ⟨b, hb, h⟩ := worked ready c hc e
        rw [busy] at hb
        cases hb
        exact h
      rw [claimLaw_iff]
      split
      · next discard =>
        exact ⟨table, fun _ => worked_of_not_assessing fun c hc e => by simp [(held c hc e).2] at discard⟩
      · unfold State.applyVerdict
        split
        · next c found =>
          have judged : (s.modClaim c.number (Claim.decide s.seconds a)).claimLaw :=
            modClaim_claimLaw law _ (by intro; rfl) (by intro _ _ _; exact ⟨rfl, rfl⟩) (by intro; exact nofun)
          have announced (u : State) (n : NoticeBody) : keeps [.lots, .ports] u
              ((u.modOpenClaims c.handoff (· - 1)).post n) :=
            (modOpenClaims_keeps u _ _).andThen (post_keeps _ n) (by simp)
          have law' := (announced _ (.claimDecided c.number c.handoff c.lot a.verdict.1 a.verdict.2)).claimLaw
            (by simp) judged
          refine ⟨((claimLaw_iff _).1 law').1, fun _ => worked_of_not_assessing fun x hx e => ?_⟩
          have hx : x ∈ s.claims.map fun d => if d.number = c.number then Claim.decide s.seconds a d else d := by
            have same := announced (s.modClaim c.number (Claim.decide s.seconds a))
              (.claimDecided c.number c.handoff c.lot a.verdict.1 a.verdict.2) .claims (by simp)
            exact Eq.mp (congrArg (x ∈ ·) same) hx
          obtain ⟨d, hd, rfl⟩ := List.mem_map.1 hx
          split at e
          · cases e
          · next other =>
            rw [(held d hd e).1] at found
            exact other (claimNamed_some s found).2.symm
        · next missing =>
          refine ⟨table, fun _ => worked_of_not_assessing fun c hc e => ?_⟩
          rw [(held c hc e).1] at missing
          have unnamed := List.find?_eq_none.1 missing c hc
          simp at unnamed
    · exact law
  · exact law

/-! ### Starts and supplies -/

theorem clearRetained_table : ClaimTable s.clearRetained.claims s.clearRetained.nextClaim :=
  ClaimTable.nil (by simp [State.clearRetained]) (by simp [State.clearRetained])

/-- A start makes every ASSESSING claim LODGED again. -/
theorem keepRetained_claims (resumed : Bool) :
    (s.keepRetained resumed).claims = s.claims.map Claim.atStart ∧
      (s.keepRetained resumed).nextClaim = s.nextClaim := by
  have before : keeps [.defrosts, .handoffs, .handKeys, .lots, .goods] s s.clampPools.resolveAll :=
    (clampPools_keeps s).andThen (keeps.foldl resolve_keeps _ _) (by simp)
  have after (r : State) : keeps [.lots, .bases, .stops] r ((r.chargeGaps resumed).restartStopTimer) :=
    (keeps.foldl (fun u c => chargeGap_keeps u resumed c) _ r).andThen (restartStopTimer_keeps _) (by simp)
  revert before
  unfold State.keepRetained
  generalize s.clampPools.resolveAll = r
  intro before
  constructor
  · exact (after _ .claims (by simp)).trans (congrArg (List.map Claim.atStart) (before .claims (by simp)))
  · exact (after _ .nextClaim (by simp)).trans (before .nextClaim (by simp))

theorem Claim.atStart_number (c : Claim) : c.atStart.number = c.number := by
  unfold Claim.atStart
  split <;> rfl

theorem Claim.atStart_judged {c : Claim} (h : c.judged) : c.atStart.judged := by
  unfold Claim.atStart
  split
  · exact nofun
  · exact h

theorem Claim.atStart_not_assessing (c : Claim) : c.atStart.state ≠ .assessing := by
  unfold Claim.atStart
  split
  · exact nofun
  · assumption

/-- What a start retains has no claim ASSESSING. -/
theorem setRetained_claims (table : ClaimTable s.claims s.nextClaim) (cause : StartCause) :
    ClaimTable (s.setRetained cause).claims (s.setRetained cause).nextClaim ∧
      ∀ c ∈ (s.setRetained cause).claims, c.state ≠ .assessing := by
  unfold State.setRetained
  split
  · rw [(keepRetained_claims s _).1, (keepRetained_claims s _).2]
    refine ⟨table.map Claim.atStart_number fun _ => Claim.atStart_judged, fun c hc => ?_⟩
    obtain ⟨d, -, rfl⟩ := List.mem_map.1 hc
    exact d.atStart_not_assessing
  · exact ⟨clearRetained_table s, by simp [State.clearRetained]⟩

theorem startReady_claimLaw (law : s.claimLaw) : (startReady s).claimLaw := by
  unfold startReady
  split
  · next cause _ =>
    refine startAssessor_claimLaw ((claimLaw_iff _).2 ?_)
    obtain ⟨table, lodged⟩ := setRetained_claims s ((claimLaw_iff s).1 law).1 cause
    exact ⟨table, fun _ => worked_of_not_assessing lodged⟩
  · exact law

theorem beginStart_claimLaw (law : s.claimLaw) (cause : StartCause) : (s.beginStart cause).claimLaw :=
  claimLaw_of_not_ready ((claimLaw_iff s).1 law).1 (by simp [State.beginStart])

theorem mainPowerLoss_claimLaw (law : s.claimLaw) : (mainPowerLoss s).claimLaw := by
  have table : ClaimTable (if s.marker then s else s.clearRetained).claims
      (if s.marker then s else s.clearRetained).nextClaim := by
    split
    · exact ((claimLaw_iff s).1 law).1
    · exact clearRetained_table s
  unfold mainPowerLoss
  split
  · exact law
  · exact claimLaw_of_not_ready table (by simp)

theorem backupSupplyLoss_claimLaw (law : s.claimLaw) : (backupSupplyLoss s).claimLaw := by
  have cleared : (if s.phase = .off then s.clearRetained else s).claimLaw := by
    split
    · next off => exact claimLaw_of_not_ready (clearRetained_table s) (by simp [State.clearRetained, off])
    · exact law
  exact cleared

/-! ### Every command -/

theorem rule_claimLaw (c : Instr) (law : s.claimLaw) : (ruleOf c s).state.claimLaw := by
  by_cases untouched : .phase ∉ touches c ∧ .claims ∉ touches c ∧ .nextClaim ∉ touches c ∧ .assessor ∉ touches c
  · exact (rule_keeps s c).claimLaw untouched law
  · cases c <;> simp [touches, startTouches, scanTouches, partyTouches, retainedTouches] at untouched
    case lotRetire lot force => exact actLotRetire_claimLaw s law lot force
    case claimLodge i code q => exact actClaimLodge_claimLaw s law i code q
    case claimWithdraw n => exact actClaimWithdraw_claimLaw s law n
    case claimFetch n => exact actClaimFetch_claimLaw s law n
    case claimClear n => exact actClaimClear_claimLaw s law n
    all_goals exact law

theorem event_claimLaw (c : Instr) (law : s.claimLaw) : (eventOf c s).claimLaw := by
  by_cases untouched : .phase ∉ touches c ∧ .claims ∉ touches c ∧ .nextClaim ∉ touches c ∧ .assessor ∉ touches c
  · exact (event_keeps s c).claimLaw untouched law
  · cases c <;> simp [touches, startTouches, scanTouches, partyTouches, retainedTouches] at untouched
    case assessmentCompletion => exact assessmentCompletion_claimLaw s law
    case startReady => exact startReady_claimLaw s law
    case mainPowerLoss => exact mainPowerLoss_claimLaw s law
    case backupSupplyLoss => exact backupSupplyLoss_claimLaw s law
    case restartStart =>
      change State.claimLaw (if _ then _ else _)
      split
      · exact beginStart_claimLaw s law _
      · exact law
    case powerUp =>
      change State.claimLaw (if _ then _ else _)
      split
      · exact beginStart_claimLaw s law _
      · exact law
    case rstnReset =>
      change (rstnReset s).claimLaw
      unfold rstnReset
      split
      · exact law
      split
      · exact beginStart_claimLaw _ law _
      · exact beginStart_claimLaw s law _
    all_goals exact law

theorem claimLaw_law : Law State.claimLaw where
  quiet h hs := h.claimLaw (by simp) hs
  answer c s p kind answer tag hs := (respond_keeps_all p kind answer tag _).claimLaw (by simp) (rule_claimLaw s c hs)
  event c s hs := event_claimLaw s c hs
  idle s hs := (idle_keeps s).claimLaw (by simp) hs

end Sys2Proof.Machine

namespace Sys2Proof.Proofs

open Sys2Proof.Machine

/-- Settles O59: a lodged claim takes a free number, and no claim is ASSESSING when the assessor ends its work. -/
theorem claimLawKept : Obligations.ClaimLawKept := fun _ _ law step => claimLaw_law.step law step

end Sys2Proof.Proofs
end

section
/-!
PROOF. Reading a settings entry: the bytes that are accepted are exactly those that spell an entry in its ranges
(section 12.4, R179 check 4).
-/
namespace Sys2Proof.Machine

/-! ### The fields of an entry -/

theorem readHalf_bit (a b : Byte) (i : Nat) :
    (readHalf a b).getLsbD i = if i < 8 then b.getLsbD i else a.getLsbD (i - 8) := by
  show BitVec.getLsbD (w := 8 + 8) (a ++ b) i = _
  rw [BitVec.getLsbD_append]

theorem readWord_bit (a b c d : Byte) (i : Nat) :
    (readWord a b c d).getLsbD i = if i < 8 then d.getLsbD i else if i < 16 then c.getLsbD (i - 8)
      else if i < 24 then b.getLsbD (i - 16) else a.getLsbD (i - 24) := by
  show BitVec.getLsbD (w := 8 + 8 + 8 + 8) (a ++ b ++ c ++ d) i = _
  simp only [BitVec.getLsbD_append]
  by_cases h1 : i < 8
  · simp [h1]
  by_cases h2 : i < 16
  · simp [h1, h2, show i - 8 < 8 by omega]
  by_cases h3 : i < 24
  · simp [h1, h2, h3, show ¬ i - 8 < 8 by omega, show i - 8 - 8 = i - 16 by omega, show i - 16 < 8 by omega]
  · simp [h1, h2, h3, show ¬ i - 8 < 8 by omega, show ¬ i - 8 - 8 < 8 by omega,
      show i - 8 - 8 - 8 = i - 24 by omega]

theorem halfBytes_readHalf (a b : Byte) : halfBytes (readHalf a b) = [a, b] := by
  have high : (readHalf a b).extractLsb' 8 8 = a := BitVec.eq_of_getLsbD_eq fun i hi => by
    rw [BitVec.getLsbD_extractLsb', readHalf_bit, if_neg (by omega), Nat.add_sub_cancel_left]
    simp [hi]
  have low : (readHalf a b).extractLsb' 0 8 = b := BitVec.eq_of_getLsbD_eq fun i hi => by
    rw [BitVec.getLsbD_extractLsb', readHalf_bit, if_pos (by omega), Nat.zero_add]
    simp [hi]
  rw [halfBytes, high, low]

theorem wordBytes_readWord (a b c d : Byte) : wordBytes (readWord a b c d) = [a, b, c, d] := by
  have field (k : Nat) (x : Byte) (h : ∀ i < 8, (readWord a b c d).getLsbD (k + i) = x.getLsbD i) :
      (readWord a b c d).extractLsb' k 8 = x := BitVec.eq_of_getLsbD_eq fun i hi => by
    rw [BitVec.getLsbD_extractLsb', h i hi]
    simp [hi]
  rw [wordBytes, field 24 a, field 16 b, field 8 c, field 0 d]
  · intro i hi
    rw [readWord_bit, if_pos (by omega), Nat.zero_add]
  · intro i hi
    rw [readWord_bit, if_neg (by omega), if_pos (by omega), Nat.add_sub_cancel_left]
  · intro i hi
    rw [readWord_bit, if_neg (by omega), if_neg (by omega), if_pos (by omega), Nat.add_sub_cancel_left]
  · intro i hi
    rw [readWord_bit, if_neg (by omega), if_neg (by omega), if_neg (by omega), Nat.add_sub_cancel_left]

@[simp] theorem u16_toNat (a b : Byte) : u16 (readHalf a b).toNat = [a, b] := by
  rw [u16, BitVec.ofNat_toNat, BitVec.setWidth_eq, halfBytes_readHalf]

@[simp] theorem u32_toNat (a b c d : Byte) : u32 (readWord a b c d).toNat = [a, b, c, d] := by
  rw [u32, BitVec.ofNat_toNat, BitVec.setWidth_eq, wordBytes_readWord]

@[simp] theorem u8_toNat (a : Byte) : u8 a.toNat = [a] := by
  rw [u8, BitVec.ofNat_toNat, BitVec.setWidth_eq]

@[simp] theorem t16_readInt (a b : Byte) : t16 (readInt a b) = [a, b] := by
  rw [t16, readInt, BitVec.ofInt_toInt, halfBytes_readHalf]

theorem toNat_u8 {n : Nat} (h : n ≤ 255) : (BitVec.ofNat 8 n).toNat = n := by
  rw [BitVec.toNat_ofNat]; omega

theorem toNat_u16 {n : Nat} (h : n ≤ 65535) : (BitVec.ofNat 16 n).toNat = n := by
  rw [BitVec.toNat_ofNat]; omega

theorem toNat_u32 {n : Nat} (h : n ≤ 4294967295) : (BitVec.ofNat 32 n).toNat = n := by
  rw [BitVec.toNat_ofNat]; omega

theorem toInt_t16 {n : Int} (low : -32768 ≤ n) (high : n ≤ 32767) : (BitVec.ofInt 16 n).toInt = n := by
  rw [BitVec.toInt_ofInt, Int.bmod_def]; split <;> omega

theorem toInt_t8 {n : Int} (low : -128 ≤ n) (high : n ≤ 127) : (BitVec.ofInt 8 n).toInt = n := by
  rw [BitVec.toInt_ofInt, Int.bmod_def]; split <;> omega

/-- The bytes of a field, one by one. -/
theorem u16_bytes (n : Nat) :
    u16 n = [(BitVec.ofNat 16 n).extractLsb' 8 8, (BitVec.ofNat 16 n).extractLsb' 0 8] := rfl

theorem t16_bytes (n : Int) :
    t16 n = [(BitVec.ofInt 16 n).extractLsb' 8 8, (BitVec.ofInt 16 n).extractLsb' 0 8] := rfl

theorem u32_bytes (n : Nat) :
    u32 n = [(BitVec.ofNat 32 n).extractLsb' 24 8, (BitVec.ofNat 32 n).extractLsb' 16 8,
      (BitVec.ofNat 32 n).extractLsb' 8 8, (BitVec.ofNat 32 n).extractLsb' 0 8] := rfl

theorem readFlag_eq_some {b : Byte} {x : Bool} : readFlag b = some x ↔ flag x = [b] := by
  unfold readFlag flag
  split
  · next h => subst h; cases x <;> simp
  split
  · next h => subst h; cases x <;> simp
  · next h0 h1 =>
    have h0' : ¬ (0 : Byte) = b := Ne.symm h0
    have h1' : ¬ (1 : Byte) = b := Ne.symm h1
    cases x <;> simpa using by assumption

theorem indexIn_eq_some {n : Nat} (small : n ≤ 256) {b : Byte} {i : Fin n} : indexIn n b = some i ↔ u8 i.val = [b] := by
  unfold indexIn u8
  have eq : [BitVec.ofNat 8 i.val] = [b] ↔ i.val = b.toNat := by
    rw [List.cons.injEq]
    simp only [and_true]
    constructor
    · intro h; rw [← h, toNat_u8 (by omega)]
    · intro h; rw [h, BitVec.ofNat_toNat, BitVec.setWidth_eq]
  rw [eq]
  split
  · rw [Option.some.injEq, Fin.ext_iff]; exact eq_comm
  · next h => simp; omega

theorem readRole_eq_some {b : Byte} {r : Role} : readRole b = some r ↔ u8 r.code = [b] := by
  have back (r : Role) : readRole (BitVec.ofNat 8 r.code) = some r := by cases r <;> rfl
  unfold u8
  constructor
  · intro h
    unfold readRole at h
    split at h
    all_goals cases h
    all_goals next e => exact congrArg (fun x => [x]) (BitVec.eq_of_toNat_eq e.symm)
  · intro h
    obtain ⟨h, -⟩ := List.cons.inj h
    rw [← h, back]

theorem readBaud_eq_some {b : Byte} {r : Baud} : readBaud b = some r ↔ u8 r.code = [b] := by
  have back (r : Baud) : readBaud (BitVec.ofNat 8 r.code) = some r := by cases r <;> rfl
  unfold u8
  constructor
  · intro h
    unfold readBaud at h
    split at h
    all_goals cases h
    all_goals next e => exact congrArg (fun x => [x]) (BitVec.eq_of_toNat_eq e.symm)
  · intro h
    obtain ⟨h, -⟩ := List.cons.inj h
    rw [← h, back]

/-! ### The entries -/

theorem General.read_eq_some {bytes : List Byte} {g : General} :
    General.read bytes = some g ↔ g.inRange = true ∧ g.bytes = bytes := by
  constructor
  · unfold General.read
    split
    · next f p1 p0 w1 w0 dt =>
      dsimp only
      split
      · next range =>
        rintro ⟨⟩
        have := dt.isLt
        exact ⟨by simp [General.inRange]; omega, by simp [General.bytes]⟩
      · exact nofun
    · exact nofun
  · rintro ⟨range, rfl⟩
    simp only [General.inRange, decide_eq_true_eq] at range
    obtain ⟨h1, h2, h3, h4, h5, h6, h7, h8, h9⟩ := range
    simp only [General.bytes, u8, u16_bytes, List.cons_append, List.nil_append, General.read, readHalf_bytes,
      toNat_u8 (n := g.scanFloor) (by omega), toNat_u8 (n := g.discardTime) (by omega),
      toNat_u16 (n := g.defaultPeriod) (by omega), toNat_u16 (n := g.handoffWindow) (by omega)]
    exact if_pos ⟨h1, h2, h3, h4, h5, h6, h7, h8⟩

theorem PortCfg.read_eq_some {bytes : List Byte} {c : PortCfg} : PortCfg.read bytes = some c ↔ c.bytes = bytes := by
  constructor
  · unfold PortCfg.read
    split
    · simp only [Option.bind_eq_bind, Option.bind_eq_some_iff, Option.pure_def, readRole_eq_some, readBaud_eq_some]
      rintro ⟨r, hr, b, hb, ⟨⟩⟩
      simp [PortCfg.bytes, hr, hb]
    · exact nofun
  · rintro rfl
    cases c with
    | mk role baud => cases role <;> cases baud <;> rfl

theorem ProbeCfg.read_eq_some {bytes : List Byte} {c : ProbeCfg} :
    ProbeCfg.read bytes = some c ↔ c.inRange = true ∧ c.bytes = bytes := by
  constructor
  · unfold ProbeCfg.read
    split
    · simp only [Option.bind_eq_bind, Option.bind_eq_some_iff, readFlag_eq_some,
        indexIn_eq_some (Nat.le_of_ble_eq_true rfl : 4 ≤ 256)]
      rintro ⟨en, hen, co, hco, pr, hpr, h⟩
      split at h
      · next range =>
        obtain rfl := Option.some.inj h
        obtain ⟨t1, t2, j1, j2⟩ := range
        refine ⟨by simp [ProbeCfg.inRange]; omega, ?_⟩
        have role : u8 (if pr then ProbeRole.product else ProbeRole.air).code = flag pr := by cases pr <;> rfl
        simp [ProbeCfg.bytes, hen, hco, role, hpr, Int.toNat_of_nonneg j1]
      · cases h
    · exact nofun
  · rintro ⟨range, rfl⟩
    simp only [ProbeCfg.inRange, decide_eq_true_eq] at range
    obtain ⟨t1, t2, j⟩ := range
    obtain ⟨enabled, comp, role, trim, jump⟩ := c
    have en : readFlag (if enabled then 1 else 0) = some enabled := readFlag_eq_some.2 rfl
    have co : indexIn 4 (BitVec.ofNat 8 comp.val) = some comp := (indexIn_eq_some (by omega)).2 rfl
    have ro : readFlag (BitVec.ofNat 8 role.code) = some (role == .product) := by cases role <;> rfl
    simp only at t1 t2 j
    simp only [ProbeCfg.bytes, flag, u8, t16_bytes, List.cons_append, List.nil_append, ProbeCfg.read,
      en, co, ro, readInt, readHalf_bytes,
      toInt_t8 (n := trim) (by omega) (by omega), toInt_t16 (n := (jump : Int)) (by omega) (by omega),
      Option.bind_eq_bind, Option.bind_some]
    rw [if_pos ⟨t1, t2, by omega, by omega⟩]
    cases role <;> rfl

theorem DoorCfg.read_eq_some {bytes : List Byte} {c : DoorCfg} :
    DoorCfg.read bytes = some c ↔ c.inRange = true ∧ c.bytes = bytes := by
  constructor
  · unfold DoorCfg.read
    split
    · simp only [Option.bind_eq_bind, Option.bind_eq_some_iff, readFlag_eq_some]
      rintro ⟨low, hlow, h⟩
      split at h
      · next range =>
        obtain rfl := Option.some.inj h
        refine ⟨by simpa [DoorCfg.inRange] using range, ?_⟩
        have polarity : u8 (if low then Polarity.openLow else Polarity.openHigh).code = flag low := by cases low <;> rfl
        simp [DoorCfg.bytes, polarity, hlow]
      · cases h
    · exact nofun
  · rintro ⟨range, rfl⟩
    simp only [DoorCfg.inRange, decide_eq_true_eq] at range
    obtain ⟨polarity, debounce, heldLimit⟩ := c
    have po : readFlag (BitVec.ofNat 8 polarity.code) = some (polarity == .openLow) := by cases polarity <;> rfl
    simp only at range
    simp only [DoorCfg.bytes, u8, u16_bytes, List.cons_append, List.nil_append, DoorCfg.read, po, readHalf_bytes,
      toNat_u16 (n := debounce) (by omega), toNat_u16 (n := heldLimit) (by omega),
      Option.bind_eq_bind, Option.bind_some]
    rw [if_pos range]
    cases polarity <;> rfl

theorem CompCfg.read_eq_some {bytes : List Byte} {c : CompCfg} :
    CompCfg.read bytes = some c ↔ c.inRange = true ∧ c.bytes = bytes := by
  constructor
  · unfold CompCfg.read
    split
    · next hl _ _ _ _ n m _ _ _ _ _ _ _ _ _ _ _ =>
      simp only [Option.bind_eq_bind, Option.bind_eq_some_iff, readFlag_eq_some]
      rintro ⟨en, hen, first, hfirst, h⟩
      split at h
      · next range =>
        obtain rfl := Option.some.inj h
        have := n.isLt
        have := m.isLt
        refine ⟨by simp only [CompCfg.inRange, decide_eq_true_eq]; omega, ?_⟩
        have mode : u8 (if first then NoticeMode.firstOnly else NoticeMode.every).code = flag first := by
          cases first <;> rfl
        simp [CompCfg.bytes, mode, hen, hfirst]
      · cases h
    · exact nofun
  · rintro ⟨range, rfl⟩
    simp only [CompCfg.inRange, decide_eq_true_eq] at range
    obtain ⟨enabled, holdLimit, low, high, trigger, clear, mode, poolMax, refillAmount, refillInterval, minGrant⟩ := c
    simp only at range
    obtain ⟨h1, h2, h3, h4, h5, h6, h7, h8, h9, h10, h11, h12, h13, h14, h15⟩ := range
    have en : readFlag (if enabled then 1 else 0) = some enabled := readFlag_eq_some.2 rfl
    have mo : readFlag (BitVec.ofNat 8 mode.code) = some (mode == .firstOnly) := by cases mode <;> rfl
    simp only [CompCfg.bytes, flag, u8, u16_bytes, u32_bytes, t16_bytes, List.cons_append, List.nil_append,
      CompCfg.read, en, mo,
      readInt, readHalf_bytes, readWord_bytes, toNat_u8 (n := holdLimit) (by omega), toNat_u8 (n := trigger) (by omega),
      toNat_u8 (n := clear) (by omega), toInt_t16 (n := low) (by omega) (by omega),
      toInt_t16 (n := high) (by omega) (by omega), toNat_u16 (n := poolMax) (by omega),
      toNat_u16 (n := refillAmount) (by omega), toNat_u32 (n := refillInterval) (by omega),
      toNat_u16 (n := minGrant) (by omega), Option.bind_eq_bind, Option.bind_some]
    rw [if_pos ⟨h1, h2, h3, h4, h5, h6, h8, h10, h11, h12, h13, h14, h15⟩]
    cases mode <;> rfl

theorem ClassCfg.read_eq_some {bytes : List Byte} {c : ClassCfg} :
    ClassCfg.read bytes = some c ↔ c.inRange = true ∧ c.bytes = bytes := by
  constructor
  · unfold ClassCfg.read
    split
    · next d1 d0 sl _ _ _ _ _ _ =>
      dsimp only
      split
      · next range =>
        rintro ⟨⟩
        have := sl.isLt
        have := (readHalf d1 d0).isLt
        refine ⟨by simp only [ClassCfg.inRange, decide_eq_true_eq]; omega, ?_⟩
        simp [ClassCfg.bytes]
      · exact nofun
    · exact nofun
  · rintro ⟨range, rfl⟩
    simp only [ClassCfg.inRange, decide_eq_true_eq] at range
    obtain ⟨h1, h2, h3, h4, h5, h6, h7, h8, h9, h10, h11, h12, h13, h14, h15, h16⟩ := range
    simp only [ClassCfg.bytes, u8, u16_bytes, u32_bytes, t16_bytes, List.cons_append, List.nil_append, ClassCfg.read,
      readInt, readHalf_bytes, readWord_bytes, toInt_t16 (n := c.limit) (by omega) (by omega),
      toInt_t16 (n := c.b1) (by omega) (by omega), toInt_t16 (n := c.b2) (by omega) (by omega),
      toInt_t16 (n := c.floor) (by omega) (by omega), toInt_t16 (n := c.shock) (by omega) (by omega),
      toNat_u16 (n := c.doseLimit) (by omega), toNat_u8 (n := c.shockLimit) (by omega),
      toNat_u32 (n := c.unverifiedLimit) (by omega), toNat_u16 (n := c.window) (by omega)]
    exact if_pos ⟨h1, h2, h3, h4, h5, h6, h7, h8, h9, h10, h12, h14, h15, h16⟩

end Sys2Proof.Machine
end

section
/-!
PROOF. A request that is taken is answered with what its rule gives; the checks of SETTINGS_PUT (R179).
-/
namespace Sys2Proof.Machine

section Taken

variable {c : Instr} {p : Port} {kind tag : Byte} {body : List Byte} {s : State}

/-- A request that the port takes is answered with what its rule gives (R162). -/
theorem exec_taken (request : encodeRequest c = some (p, kind, tag, body)) (takes : s.takes p kind) :
    exec c s = .next (State.respond p kind (kind + 0x80) tag (ruleOf c s)) := by
  rw [exec_request request, takeRequest_taken tag _ takes, (request_kind request).2]

/-- The status of the response is the one that the rule gives. -/
theorem answersWith_of_status (request : encodeRequest c = some (p, kind, tag, body)) (takes : s.takes p kind)
    {status : Status} (h : (ruleOf c s).status = status) : answersWith c s p status :=
  ⟨_, exec_taken request takes, by rw [State.statusOf, respond_request]; exact congrArg some h⟩

/-- A rule that answers with a state and nothing after it. -/
theorem exec_answered (request : encodeRequest c = some (p, kind, tag, body)) (takes : s.takes p kind)
    {status : Status} {bytes : List Byte} {t : State} (h : ruleOf c s = reply status t bytes) :
    exec c s = .next (answered p kind tag status bytes t) := by
  rw [exec_taken request takes, h]
  rfl

end Taken

/-! ### SETTINGS_PUT (R179) -/

theorem entryRef_eq (group index : Byte) : entryRef group index = match group.toNat with
    | 0 => if index.toNat < 1 then some .general else none
    | 1 => if h : index.toNat < 3 then some (.port ⟨index.toNat, h⟩) else none
    | 2 => if h : index.toNat < 8 then some (.probe ⟨index.toNat, h⟩) else none
    | 3 => if h : index.toNat < 4 then some (.door ⟨index.toNat, h⟩) else none
    | 4 => if h : index.toNat < 4 then some (.compartment ⟨index.toNat, h⟩) else none
    | 5 => if h : index.toNat < 16 then some (.cls ⟨index.toNat, h⟩) else none
    | _ => none := by
  have zero : index = 0 ↔ index.toNat < 1 := by
    rw [Nat.lt_one_iff]
    exact ⟨fun h => h ▸ rfl, fun h => BitVec.eq_of_toNat_eq h⟩
  have named {n : Nat} (f : Fin n → EntryRef) : (indexIn n index).map f =
      if h : index.toNat < n then some (f ⟨index.toNat, h⟩) else none := by
    unfold indexIn
    split <;> rfl
  unfold entryRef
  generalize group.toNat = n
  split <;> simp only [zero, named]

section Put

variable {st new : Settings} {bytes : List Byte}

theorem put_general : st.put .general bytes = some new ↔
    ∃ x : General, x.inRange = true ∧ x.bytes = bytes ∧ new = { st with general := x } := by
  simp only [Settings.put, Option.map_eq_some_iff, General.read_eq_some, and_assoc, eq_comm (a := new)]

theorem put_port (p : Port) : st.put (.port p) bytes = some new ↔
    ∃ x : PortCfg, x.bytes = bytes ∧ new = { st with ports := setAt st.ports p x } := by
  simp only [Settings.put, Option.map_eq_some_iff, PortCfg.read_eq_some, eq_comm (a := new)]

theorem put_probe (i : Probe) : st.put (.probe i) bytes = some new ↔
    ∃ x : ProbeCfg, x.inRange = true ∧ x.bytes = bytes ∧ new = { st with probes := setAt st.probes i x } := by
  simp only [Settings.put, Option.map_eq_some_iff, ProbeCfg.read_eq_some, and_assoc, eq_comm (a := new)]

theorem put_door (d : Comp) : st.put (.door d) bytes = some new ↔
    ∃ x : DoorCfg, x.inRange = true ∧ x.bytes = bytes ∧ new = { st with doors := setAt st.doors d x } := by
  simp only [Settings.put, Option.map_eq_some_iff, DoorCfg.read_eq_some, and_assoc, eq_comm (a := new)]

theorem put_compartment (c : Comp) : st.put (.compartment c) bytes = some new ↔
    ∃ x : CompCfg, x.inRange = true ∧ x.bytes = bytes ∧ new = { st with comps := setAt st.comps c x } := by
  simp only [Settings.put, Option.map_eq_some_iff, CompCfg.read_eq_some, and_assoc, eq_comm (a := new)]

theorem put_cls (k : ClassNo) : st.put (.cls k) bytes = some new ↔
    ∃ x : ClassCfg, x.inRange = true ∧ x.bytes = bytes ∧ new = { st with classes := setAt st.classes k x } := by
  simp only [Settings.put, Option.map_eq_some_iff, ClassCfg.read_eq_some, and_assoc, eq_comm (a := new)]

end Put

/-- A class is in use when a lot names it, the ports when no DOCK would be left (R179, check 5). -/
theorem entryInUse_eq (s : State) (r : EntryRef) (new : Settings) :
    (if s.entryInUse r new then Status.inUse else .ok) = match r with
      | .cls k => if s.lots.toList.any (fun o => o.any fun l => l.cls == k) = true then .inUse else .ok
      | .port _ => if new.ports.toList.any (fun c => c.role == .dock) = true then .ok else .inUse
      | _ => .ok := by
  cases r
  case cls k =>
    have used : (0 < s.countLots fun l => l.cls == k) ↔
        s.lots.toList.any (fun o => o.any fun l => l.cls == k) = true := by
      rw [countLots_eq, List.countP_pos_iff, List.any_eq_true]
    simp only [State.entryInUse, decide_eq_true_eq, used]
  case port p => cases h : new.ports.toList.any fun c => c.role == .dock <;> simp [State.entryInUse, h]
  all_goals rfl

/-- The status of SETTINGS_PUT, check by check. -/
theorem actSettingsPut_status (p : Port) (group index : Byte) (entry : List Byte) (s : State) :
    (actSettingsPut p group index entry s).status =
      if badEntryLength group entry = true then .badRequest
      else match entryRef group index with
        | none => .range
        | some r =>
          if s.route.state = .dispatched then .state
          else if s.storeWrite = true ∨ s.restartTaken = true then .busy
          else match s.settings.put r entry with
            | none => .range
            | some new => if s.entryInUse r new then .inUse else .ok := by
  unfold actSettingsPut
  cases entryRef group index with
  | none => split_ifs <;> rfl
  | some r =>
    dsimp only
    cases s.settings.put r entry <;> dsimp only <;> split_ifs <;> rfl

end Sys2Proof.Machine

namespace Sys2Proof.Proofs

open Sys2Proof.Machine

/-- Settles O18: the entry tables by their counts, the fields by reading back their bytes, and the checks in order. -/
theorem settingsPutOrder : Obligations.SettingsPutOrder :=
  ⟨entryRef_eq,
    fun _ _ _ p i c k => ⟨put_general, put_port p, put_probe i, put_door c, put_compartment c, put_cls k⟩,
    fun p tag group index entry s takes => answersWith_of_status rfl takes
      ((actSettingsPut_status p group index entry s).trans (by simp only [entryInUse_eq] <;> rfl))⟩

end Sys2Proof.Proofs
end

section
/-!
PROOF. The laws of the settings, of the scan period and of the pools: the period in force is the one that settings and
bids give, and every change of either works it out again (R18); a pool grows only to its maximum (R54, R62, R64).
-/
namespace Sys2Proof.Machine

/-! ### The settings in range -/

theorem inRange_iff (st : Settings) : st.inRange = true ↔
    st.general.inRange = true ∧ (∀ i, (st.probes.get i).inRange = true) ∧ (∀ d, (st.doors.get d).inRange = true) ∧
    (∀ c, (st.comps.get c).inRange = true) ∧ (∀ k, (st.classes.get k).inRange = true) ∧
    st.ports.toList.any (fun c => c.role == .dock) = true := by
  simp only [Settings.inRange, Bool.and_eq_true, all_toList, and_assoc]

theorem factory_inRange : Settings.factory.inRange = true := by decide

theorem all_get_setAt {α : Type} {n : Nat} {f : α → Bool} {v : Vector α n} {i : Fin n} {x : α}
    (old : ∀ j, f (v.get j) = true) (new : f x = true) (j : Fin n) : f ((setAt v i x).get j) = true := by
  rw [get_setAt]
  split
  · exact new
  · exact old j

/-- An accepted entry leaves the settings in range (R179, checks 4 and 5). -/
theorem put_inRange {s : State} {r : EntryRef} {bytes : List Byte} {new : Settings}
    (range : s.settings.inRange = true) (put : s.settings.put r bytes = some new)
    (unused : ¬ s.entryInUse r new = true) : new.inRange = true := by
  obtain ⟨general, probes, doors, comps, classes, dock⟩ := (inRange_iff _).1 range
  rw [inRange_iff]
  cases r with
  | general =>
    obtain ⟨x, hx, -, rfl⟩ := put_general.1 put
    exact ⟨hx, probes, doors, comps, classes, dock⟩
  | port p =>
    obtain ⟨x, -, rfl⟩ := (put_port p).1 put
    exact ⟨general, probes, doors, comps, classes, by simpa [State.entryInUse] using unused⟩
  | probe i =>
    obtain ⟨x, hx, -, rfl⟩ := (put_probe i).1 put
    exact ⟨general, all_get_setAt probes hx, doors, comps, classes, dock⟩
  | door d =>
    obtain ⟨x, hx, -, rfl⟩ := (put_door d).1 put
    exact ⟨general, probes, all_get_setAt doors hx, comps, classes, dock⟩
  | compartment c =>
    obtain ⟨x, hx, -, rfl⟩ := (put_compartment c).1 put
    exact ⟨general, probes, doors, all_get_setAt comps hx, classes, dock⟩
  | cls k =>
    obtain ⟨x, hx, -, rfl⟩ := (put_cls k).1 put
    exact ⟨general, probes, doors, comps, all_get_setAt classes hx, dock⟩

/-- Entries of the other groups leave the general settings and the compartments as they are. -/
theorem put_general_eq {st new : Settings} {r : EntryRef} {bytes : List Byte} (put : st.put r bytes = some new)
    (other : r ≠ .general) : new.general = st.general := by
  cases r
  case general => exact absurd rfl other
  all_goals
    obtain ⟨x, -, rfl⟩ := Option.map_eq_some_iff.1 put
    rfl

theorem put_comps_eq {st new : Settings} {r : EntryRef} {bytes : List Byte} (put : st.put r bytes = some new)
    (other : ∀ c, r ≠ .compartment c) : new.comps = st.comps := by
  cases r
  case compartment c => exact absurd rfl (other c)
  all_goals
    obtain ⟨x, -, rfl⟩ := Option.map_eq_some_iff.1 put
    rfl

/-! ### The period that settings and bids give (R18) -/

theorem clampBid_range {g : General} (range : g.inRange = true) (b : Nat) :
    g.scanFloor ≤ clampBid g b ∧ clampBid g b ≤ 256 := by
  simp only [General.inRange, decide_eq_true_eq] at range
  unfold clampBid
  omega

theorem mem_clamped (s : State) (b : Nat) :
    b ∈ s.ports.toList.filterMap (fun ps => ps.bid.map (clampBid s.settings.general)) ↔
      ∃ p : Port, ∃ n, (s.ports.get p).bid = some n ∧ clampBid s.settings.general n = b := by
  simp only [List.mem_filterMap, Vector.mem_toList_iff, Vector.mem_iff_getElem, Option.map_eq_some_iff,
    Vector.get_eq_getElem]
  constructor
  · rintro ⟨ps, ⟨i, hi, rfl⟩, h⟩
    exact ⟨⟨i, hi⟩, h⟩
  · rintro ⟨p, h⟩
    exact ⟨_, ⟨p.val, p.isLt, rfl⟩, h⟩

/-- The lowest clamped bid, or the default where there is no bid. -/
theorem wantedPeriod_eq_iff (s : State) (n : Nat) : s.wantedPeriod = n ↔
    ((∃ p : Port, ∃ b, (s.ports.get p).bid = some b ∧ clampBid s.settings.general b = n) ∧
      ∀ p : Port, ∀ b, (s.ports.get p).bid = some b → n ≤ clampBid s.settings.general b) ∨
    ((∀ p : Port, (s.ports.get p).bid = none) ∧ n = s.settings.general.defaultPeriod) := by
  unfold State.wantedPeriod
  dsimp only
  split
  · next b least =>
    rw [List.min?_eq_some_iff] at least
    simp only [mem_clamped, forall_exists_index, and_imp] at least
    obtain ⟨⟨p, x, bid, clamp⟩, low⟩ := least
    constructor
    · rintro rfl
      exact .inl ⟨⟨p, x, bid, clamp⟩, fun q y h => low _ q y h rfl⟩
    · rintro (⟨⟨q, y, bid', clamp'⟩, low'⟩ | ⟨absent, -⟩)
      · have := low _ q y bid' rfl
        have := low' p x bid
        omega
      · simp [absent p] at bid
  · next empty =>
    have absent (p : Port) : (s.ports.get p).bid = none := by
      by_contra h
      obtain ⟨x, hx⟩ := Option.ne_none_iff_exists'.1 h
      have mem := (mem_clamped s _).2 ⟨p, x, hx, rfl⟩
      rw [List.min?_eq_none_iff.1 empty] at mem
      cases mem
    simp [absent, eq_comm]

theorem wantedPeriod_range {s : State} (range : s.settings.inRange = true) :
    s.settings.general.scanFloor ≤ s.wantedPeriod ∧ s.wantedPeriod ≤ 256 := by
  have general := ((inRange_iff _).1 range).1
  rcases (wantedPeriod_eq_iff s _).1 rfl with ⟨⟨p, b, -, e⟩, -⟩ | ⟨-, e⟩
  · rw [← e]; exact clampBid_range general b
  · rw [e]
    simp only [General.inRange, decide_eq_true_eq] at general
    omega

theorem wantedPeriod_of_bids {s t : State} (general : t.settings.general = s.settings.general)
    (bids : Aspect.bids.kept s t) : t.wantedPeriod = s.wantedPeriod := by
  rw [wantedPeriod_eq_iff, general]
  simp only [show ∀ p, (t.ports.get p).bid = (s.ports.get p).bid from bids]
  exact (wantedPeriod_eq_iff s _).1 rfl

/-- Settings in range, and the period that they and the bids give. -/
structure Periodic (s : State) : Prop where
  active : s.settings.inRange = true
  stored : s.store.contents.inRange = true
  period : s.scanner.period = s.wantedPeriod

theorem periodLaw_iff (s : State) : s.periodLaw ↔ Periodic s := by
  have forced : (∀ p : Port,
      (s.ports.get p).bid.all (fun b => s.scanner.period ≤ clampBid s.settings.general b) = true) ↔
      ∀ p : Port, ∀ b, (s.ports.get p).bid = some b → s.scanner.period ≤ clampBid s.settings.general b := by
    simp [Option.all_eq_true]
  have given : (∃ p : Port,
      (s.ports.get p).bid.any (fun b => clampBid s.settings.general b = s.scanner.period) = true) ↔
      ∃ p : Port, ∃ b, (s.ports.get p).bid = some b ∧ clampBid s.settings.general b = s.scanner.period := by
    simp [Option.any_eq_true]
  rw [State.periodLaw, forced, given]
  constructor
  · rintro ⟨active, stored, -, -, low, h⟩
    refine ⟨active, stored, ((wantedPeriod_eq_iff s _).2 ?_).symm⟩
    exact h.imp_left fun bid => ⟨bid, low⟩
  · rintro ⟨active, stored, period⟩
    have range := wantedPeriod_range active
    rw [← period] at range
    refine ⟨active, stored, range.1, range.2, ?_⟩
    rcases (wantedPeriod_eq_iff s _).1 period.symm with ⟨bid, low⟩ | ⟨absent, e⟩
    · exact ⟨low, .inl bid⟩
    · exact ⟨fun p b h => by simp [absent p] at h, .inr ⟨absent, e⟩⟩

section Periodic

variable {s t : State}

theorem keeps.periodic {xs : List Aspect} (h : keeps xs s t)
    (untouched : .settings ∉ xs ∧ .store ∉ xs ∧ .bids ∉ xs ∧ .period ∉ xs) (law : Periodic s) : Periodic t := by
  obtain ⟨hsettings, hstore, hbids, hperiod⟩ := untouched
  have settings : t.settings = s.settings := h .settings hsettings
  have store : t.store = s.store := h .store hstore
  have period : t.scanner.period = s.scanner.period := h .period hperiod
  refine ⟨settings ▸ law.active, store ▸ law.stored, ?_⟩
  rw [period, law.period, wantedPeriod_of_bids (by rw [settings]) (h .bids hbids)]

/-- Working the period out again. -/
theorem recomputePeriod_periodic (active : s.settings.inRange = true) (stored : s.store.contents.inRange = true) :
    Periodic s.recomputePeriod := by
  refine ⟨by simpa using active, by simpa using stored, ?_⟩
  rw [recomputePeriod_scanner]
  exact (wantedPeriod_congr (by simp) (by simp)).symm

theorem forgetParty_periodic (law : Periodic s) (p : Port) : Periodic (s.forgetParty p) :=
  recomputePeriod_periodic (by simpa using law.active) (by simpa using law.stored)

theorem takeChange_periodic (law : Periodic s) (p : Port) (c : PortChange) : Periodic (s.takeChange p c) := by
  have roled : Periodic (s.changeRole p c.role) := by
    unfold State.changeRole
    split
    · exact law
    · exact forgetParty_periodic ((modPort_keeps s p (by intro; rfl) (by exact fun _ => id)).periodic (by simp) law) p
  unfold State.takeChange State.changeBaud
  split
  · exact roled
  · exact (modPort_keeps _ p (by intro; rfl) (by exact fun _ => id)).periodic (by simp) roled

theorem portSettingsEffect_periodic (law : Periodic s) (p : Port) : Periodic (portSettingsEffect p s) := by
  unfold portSettingsEffect
  dsimp only
  split
  · refine List.foldlRecOn (motive := Periodic) _ _ ?_ fun t ht c _ => takeChange_periodic ht p c
    exact (modPort_keeps s p (by intro; rfl) (by exact fun _ => id)).periodic (by simp) law
  · exact law

theorem noticeFrameEnd_periodic (law : Periodic s) (p : Port) : Periodic (noticeFrameEnd p s) := by
  unfold noticeFrameEnd
  split
  · refine (beginResponse_keeps _ p).periodic (by simp) (portSettingsEffect_periodic ?_ p)
    exact (modPort_keeps s p (by intro; rfl) (by exact fun _ => id)).periodic (by simp) law
  · exact law

theorem dropResponse_keeps (s : State) (p : Port) : keeps [.ports, .restartDue] s (s.dropResponse p) := by
  have ended : keeps [.ports] s (s.modPort p fun ps => { ps with request := none, tx := none }) :=
    modPort_keeps s p (by intro; rfl) fun _ h => ⟨h.1, h.2.1, rfl⟩
  unfold State.dropResponse
  dsimp only
  split
  · exact ended.andThen (applyAfter_keeps _ p _) (by simp)
  · exact ended.mono (by simp)

theorem portBreak_periodic (law : Periodic s) (p : Port) : Periodic (portBreak p s) := by
  unfold portBreak
  split
  · refine (dropResponse_keeps _ p).periodic (by simp) (forgetParty_periodic ?_ p)
    exact (modPort_keeps s p (by intro; rfl) (by exact fun _ => id)).periodic (by simp) law
  · exact law

theorem actScanBid_periodic (law : Periodic s) (p : Port) (n : Half) : Periodic (actScanBid p n s).state :=
  recomputePeriod_periodic (by simpa using law.active) (by simpa using law.stored)

/-- An entry of another group than GENERAL keeps the period. -/
theorem applyEntry_keeps_period (s : State) (p : Port) {r : EntryRef} (old : Settings) (other : r ≠ .general) :
    keeps [.scanner, .ports, .probes, .doors, .lots, .watches, .defrosts, .pools] s (s.applyEntry p r old) := by
  cases r
  case general => exact absurd rfl other
  case port q => exact (modPort_keeps s q (by intro; rfl) (by exact fun _ => id)).mono (by simp)
  case probe i => exact (modProbe_keeps s i (by exact fun _ => id)).mono (by simp)
  case door d => exact (doorSettings_keeps s d _).mono (by simp)
  case compartment c => exact (watchSettings_keeps s c _).andThen (defrostSettings_keeps _ c) (by simp)
  case cls => exact keeps.refl _ s

/-- An entry of another group than COMPARTMENT keeps the pools. -/
theorem applyEntry_keeps_pools (s : State) (p : Port) {r : EntryRef} (old : Settings)
    (other : ∀ c, r ≠ .compartment c) : Aspect.pools.kept s (s.applyEntry p r old) := by
  cases r
  case compartment c => exact absurd rfl (other c)
  case general => exact recomputePeriod_keeps s .pools (by simp)
  case door d => exact doorSettings_keeps s d _ .pools (by simp)
  all_goals exact fun _ => le_refl _

theorem actSettingsPut_periodic (law : Periodic s) (p : Port) (g i : Byte) (entry : List Byte) :
    Periodic (actSettingsPut p g i entry s).state := by
  unfold actSettingsPut
  split
  · exact law
  split
  · exact law
  next r _ =>
  split
  · exact law
  split
  · exact law
  split
  · exact law
  next new put =>
  split
  · exact law
  · next unused =>
    have active := put_inRange law.active put unused
    let base : State := { s with settings := new, storeWrite := true }
    change Periodic (base.applyEntry p r s.settings)
    by_cases general : r = .general
    · rw [general]
      exact recomputePeriod_periodic active law.stored
    · have law' : Periodic base :=
        ⟨active, law.stored, law.period.trans
          (wantedPeriod_of_bids (t := base) (put_general_eq put general) fun _ => rfl).symm⟩
      exact (applyEntry_keeps_period base p s.settings general).periodic (by simp) law'

/-! ### Starts and the store -/

/-- A start takes the stored settings, or the factory's, and no port has a bid. -/
theorem beginStart_periodic (stored : s.store.contents.inRange = true) (cause : StartCause) :
    Periodic (s.beginStart cause) := by
  refine ⟨?_, stored, ?_⟩
  · simp only [State.beginStart, Store.load]
    split
    · exact stored
    · exact factory_inRange
  · refine ((wantedPeriod_eq_iff (s.beginStart cause) _).2 (.inr ⟨fun p => ?_, rfl⟩)).symm
    simp [State.beginStart, PortState.fresh]

theorem interrupted_inRange (law : Periodic s) (outcome : Config.InterruptedWrite) :
    (s.store.interrupted s.settings outcome).contents.inRange = true := by
  cases outcome
  · exact law.stored
  · exact law.active
  · exact law.stored

theorem rstnReset_periodic (law : Periodic s) : Periodic (rstnReset s) := by
  unfold rstnReset
  split
  · exact law
  split
  · exact beginStart_periodic (s := { s with store := _, draws := _ }) (interrupted_inRange law _) _
  · exact beginStart_periodic law.stored _

theorem storeWriteCompletion_periodic (law : Periodic s) : Periodic (storeWriteCompletion s) := by
  unfold storeWriteCompletion
  split
  · exact ⟨law.active, law.active, law.period⟩
  · exact law

/-- The settings, the store's contents and the bids outlast the loss of main power. -/
theorem mainPowerLoss_periodic (law : Periodic s) : Periodic (mainPowerLoss s) := by
  have cleared : Periodic (if s.marker then s else s.clearRetained) := by
    split
    · exact law
    · exact (clearRetained_keeps s).periodic (by simp [retainedTouches]) law
  unfold mainPowerLoss
  split
  · exact law
  · refine ⟨cleared.active, ?_, cleared.period.trans (Eq.symm ?_)⟩
    · dsimp only
      generalize (if s.marker = true then s else s.clearRetained) = u at cleared
      split
      · exact cleared.stored
      · exact cleared.stored
    · refine wantedPeriod_of_bids rfl fun p => ?_
      simp

end Periodic

variable (s : State)

theorem rule_periodic (c : Instr) (law : Periodic s) : Periodic (ruleOf c s).state := by
  by_cases untouched : .settings ∉ touches c ∧ .store ∉ touches c ∧ .bids ∉ touches c ∧ .period ∉ touches c
  · exact (rule_keeps s c).periodic untouched law
  · cases c <;> simp [touches, startTouches, scanTouches, partyTouches, retainedTouches] at untouched
    case scanBid p _ n => exact actScanBid_periodic law p n
    case settingsPut p _ g i entry => exact actSettingsPut_periodic law p g i entry
    all_goals exact law

theorem event_periodic (c : Instr) (law : Periodic s) : Periodic (eventOf c s) := by
  by_cases untouched : .settings ∉ touches c ∧ .store ∉ touches c ∧ .bids ∉ touches c ∧ .period ∉ touches c
  · exact (event_keeps s c).periodic untouched law
  · cases c <;> simp [touches, startTouches, scanTouches, partyTouches, retainedTouches] at untouched
    case storeWriteCompletion => exact storeWriteCompletion_periodic law
    case restartStart =>
      change Periodic (if _ then _ else _)
      split
      · exact beginStart_periodic law.stored _
      · exact law
    case powerUp =>
      change Periodic (if _ then _ else _)
      split
      · exact beginStart_periodic law.stored _
      · exact law
    case rstnReset => exact rstnReset_periodic law
    case mainPowerLoss => exact mainPowerLoss_periodic law
    case portSettingsEffect p => exact portSettingsEffect_periodic law p
    case noticeFrameEnd p => exact noticeFrameEnd_periodic law p
    case portBreak p => exact portBreak_periodic law p
    all_goals exact law

theorem periodic_law : Law Periodic where
  quiet h hs := h.periodic (by simp) hs
  answer c s p kind answer tag hs := (respond_keeps_all p kind answer tag _).periodic (by simp) (rule_periodic s c hs)
  event c s hs := event_periodic s c hs
  idle s hs := (idle_keeps s).periodic (by simp) hs

/-! ### The pools -/

section Pools

variable {s t : State}

/-- No pool has grown, under the same maxima. -/
theorem poolLaw_of_kept (phase : t.phase = s.phase) (comps : t.settings.comps = s.settings.comps)
    (pools : Aspect.pools.kept s t) (law : s.poolLaw) : t.poolLaw := by
  intro ready c
  rw [comps]
  exact (pools c).trans (law (phase ▸ ready) c)

theorem keeps.poolLaw {xs : List Aspect} (h : keeps xs s t)
    (untouched : .phase ∉ xs ∧ .settings ∉ xs ∧ .pools ∉ xs) (law : s.poolLaw) : t.poolLaw :=
  poolLaw_of_kept (h .phase untouched.1) (congrArg Settings.comps (h .settings untouched.2.1))
  (h .pools untouched.2.2) law

theorem poolLaw_of_not_ready (h : t.phase ≠ .ready) : t.poolLaw := fun ready => absurd ready h

/-- Within READY the law is about each compartment by itself. -/
theorem poolLaw_of_pools (h : ∀ c : Comp, (t.defrosts.get c).pool ≤ (t.settings.comps.get c).poolMax) : t.poolLaw :=
  fun _ => h

theorem refillExpiry_poolLaw (law : s.poolLaw) (c : Comp) : (refillExpiry c s).poolLaw := by
  unfold refillExpiry
  dsimp only
  split
  · next due =>
    refine poolLaw_of_pools fun d => ?_
    simp only [State.modDefrost_defrosts, State.modDefrost_settings, get_modAt, Allowance.refillNow]
    split
    · next e => subst e; exact Nat.min_le_right _ _
    · exact law due.1 d
  · exact law

theorem defrostSettings_pool (s : State) (c : Comp) :
    ((s.defrostSettings c).defrosts.get c).pool ≤ (s.settings.comps.get c).poolMax := by
  simp only [State.defrostSettings, State.modDefrost_defrosts, get_modAt, if_true, Allowance.refillNow]
  split
  · exact Nat.min_le_right _ _
  · exact Nat.min_le_right _ _

theorem actSettingsPut_poolLaw (law : s.poolLaw) (p : Port) (g i : Byte) (entry : List Byte) :
    (actSettingsPut p g i entry s).state.poolLaw := by
  unfold actSettingsPut
  split
  · exact law
  split
  · exact law
  next r _ =>
  split
  · exact law
  split
  · exact law
  split
  · exact law
  next new put =>
  split
  · exact law
  · let base : State := { s with settings := new, storeWrite := true }
    change (base.applyEntry p r s.settings).poolLaw
    have kept := applyEntry_keeps base p r s.settings
    by_cases compartment : ∃ c, r = .compartment c
    · obtain ⟨c, rfl⟩ := compartment
      obtain ⟨x, -, rfl⟩ := Option.map_eq_some_iff.1 put
      let mid := base.watchSettings c (s.settings.comps.get c)
      have watched : keeps [.watches] base mid := watchSettings_keeps base c _
      have settings : mid.settings = base.settings := watched .settings (by simp)
      have phase : (base.applyEntry p (.compartment c) s.settings).phase = s.phase := kept .phase (by simp)
      intro ready d
      change ((mid.defrostSettings c).defrosts.get d).pool ≤ (mid.settings.comps.get d).poolMax
      by_cases e : d = c
      · subst e
        exact defrostSettings_pool mid d
      · rw [settings]
        simp only [State.defrostSettings, State.modDefrost_defrosts, get_modAt, e, if_false]
        have defrosts : mid.defrosts = s.defrosts := watched .defrosts (by simp)
        rw [defrosts, show base.settings.comps.get d = s.settings.comps.get d by simp [base, e]]
        exact law (phase ▸ ready) d
    · have other : ∀ c, r ≠ .compartment c := fun c e => compartment ⟨c, e⟩
      have pools := applyEntry_keeps_pools base p s.settings other
      exact poolLaw_of_kept (s := s) (kept .phase (by simp))
        ((congrArg Settings.comps (kept .settings (by simp))).trans (put_comps_eq (st := s.settings) (new := new) put other))
        pools law

/-- Clamped or set afresh, no pool exceeds its maximum at READY. -/
theorem startReady_poolLaw (law : s.poolLaw) : (startReady s).poolLaw := by
  unfold startReady
  split
  · next cause _ =>
    have retained (c : Comp) : ((s.setRetained cause).defrosts.get c).pool ≤
        ((s.setRetained cause).settings.comps.get c).poolMax := by
      unfold State.setRetained
      split
      · have clamped (c : Comp) : (s.clampPools.defrosts.get c).pool ≤ (s.settings.comps.get c).poolMax := by
          simp [State.clampPools]
        have resolved : keeps [.handoffs, .handKeys, .lots, .goods] s.clampPools s.clampPools.resolveAll :=
          keeps.foldl resolve_keeps _ _
        have pools := resolved .pools (by simp) c
        have rest : keeps [.claims, .lots, .bases, .stops] s.clampPools.resolveAll
            (s.keepRetained (cause == .powerUp)) := by
          unfold State.keepRetained
          generalize s.clampPools.resolveAll = r
          exact (setClaims_keeps r _).andThen
            ((keeps.foldl (fun u c => chargeGap_keeps u _ c) _ _).andThen (restartStopTimer_keeps _)
              (zs := [.lots, .bases, .stops]) (by simp)) (by simp)
        have settings : (s.keepRetained (cause == .powerUp)).settings = s.settings :=
          keepRetained_keeps s _ .settings (by simp)
        rw [settings]
        exact ((rest .pools (by simp) c).trans pools).trans (clamped c)
      · simp [State.clearRetained, Allowance.fresh]
    refine (startAssessor_keeps _).poolLaw (by simp) (poolLaw_of_pools fun c => ?_)
    simpa using retained c
  · exact law

theorem beginStart_poolLaw (s : State) (cause : StartCause) : (s.beginStart cause).poolLaw :=
  poolLaw_of_not_ready (by simp [State.beginStart])

theorem mainPowerLoss_poolLaw (law : s.poolLaw) : (mainPowerLoss s).poolLaw := by
  unfold mainPowerLoss
  split
  · exact law
  · exact poolLaw_of_not_ready (by simp)

theorem backupSupplyLoss_poolLaw (law : s.poolLaw) : (backupSupplyLoss s).poolLaw := by
  have cleared : (if s.phase = .off then s.clearRetained else s).poolLaw := by
    split
    · next off => exact poolLaw_of_not_ready (by simp [State.clearRetained, off])
    · exact law
  exact cleared

end Pools

theorem rule_poolLaw (c : Instr) (law : s.poolLaw) : (ruleOf c s).state.poolLaw := by
  by_cases untouched : .phase ∉ touches c ∧ .settings ∉ touches c ∧ .pools ∉ touches c
  · exact (rule_keeps s c).poolLaw untouched law
  · cases c <;> simp [touches, startTouches, scanTouches, partyTouches, retainedTouches] at untouched
    case settingsPut p _ g i entry => exact actSettingsPut_poolLaw law p g i entry
    all_goals exact law

theorem event_poolLaw (c : Instr) (law : s.poolLaw) : (eventOf c s).poolLaw := by
  by_cases untouched : .phase ∉ touches c ∧ .settings ∉ touches c ∧ .pools ∉ touches c
  · exact (event_keeps s c).poolLaw untouched law
  · cases c <;> simp [touches, startTouches, scanTouches, partyTouches, retainedTouches] at untouched
    case refillExpiry c => exact refillExpiry_poolLaw law c
    case startReady => exact startReady_poolLaw law
    case mainPowerLoss => exact mainPowerLoss_poolLaw law
    case backupSupplyLoss => exact backupSupplyLoss_poolLaw law
    case restartStart =>
      change State.poolLaw (if _ then _ else _)
      split
      · exact beginStart_poolLaw s _
      · exact law
    case powerUp =>
      change State.poolLaw (if _ then _ else _)
      split
      · exact beginStart_poolLaw s _
      · exact law
    case rstnReset =>
      change (rstnReset s).poolLaw
      unfold rstnReset
      split
      · exact law
      split <;> exact beginStart_poolLaw _ _
    all_goals exact law

theorem poolLaw_law : Law State.poolLaw where
  quiet h hs := h.poolLaw (by simp) hs
  answer c s p kind answer tag hs := (respond_keeps_all p kind answer tag _).poolLaw (by simp) (rule_poolLaw s c hs)
  event c s hs := event_poolLaw s c hs
  idle s hs := (idle_keeps s).poolLaw (by simp) hs

end Sys2Proof.Machine

namespace Sys2Proof.Proofs

open Sys2Proof.Machine

/-- Settles O58: every change of settings or bids works the period out again, and a pool grows to its maximum alone. -/
theorem periodAndPoolLawKept : Obligations.PeriodAndPoolLawKept := fun s t period pool step =>
  ⟨(periodLaw_iff t).2 (periodic_law.step ((periodLaw_iff s).1 period) step), poolLaw_law.step pool step⟩

end Sys2Proof.Proofs
end

section
/-!
PROOF. How many bytes each field, record and response body takes (R182 to R184): no BODY exceeds 238 bytes while the
collections keep their capacities (section 0.7).
-/
namespace Sys2Proof.Machine

/-! ### Fields -/

@[simp] theorem length_wordBytes (w : Word) : (wordBytes w).length = 4 := rfl
@[simp] theorem length_halfBytes (h : Half) : (halfBytes h).length = 2 := rfl
@[simp] theorem length_timeBytes (t : Time) : (timeBytes t).length = 4 := rfl
@[simp] theorem length_u8 (n : Nat) : (u8 n).length = 1 := rfl
@[simp] theorem length_u16 (n : Nat) : (u16 n).length = 2 := rfl
@[simp] theorem length_u32 (n : Nat) : (u32 n).length = 4 := rfl
@[simp] theorem length_t16 (n : Int) : (t16 n).length = 2 := rfl
@[simp] theorem length_flag (b : Bool) : (flag b).length = 1 := rfl
@[simp] theorem length_stepLen (d : Option Nat) : (stepLen d).length = 2 := rfl

@[simp] theorem length_tempBytes (t : Option Int) : (tempBytes t).length = 2 := by cases t <;> rfl

theorem length_opt {α : Type} (n : Nat) (f : α → List Byte) (o : Option α) :
    (opt n f o).length = o.elim n (fun x => (f x).length) + 1 := by
  cases o <;> simp [opt]

theorem length_getD {α : Type} (d : List Byte) (f : α → List Byte) (o : Option α) :
    ((o.map f).getD d).length = o.elim d.length fun x => (f x).length := by
  cases o <;> rfl

/-- A part whose length is the same, present or absent. -/
@[simp] theorem elim_same {α β : Type} (o : Option α) (n : β) : (o.elim n fun _ => n) = n := by
  cases o <;> rfl

theorem length_counted {α : Type} (f : α → List Byte) (xs : List α) :
    (counted f xs).length = (xs.map fun x => (f x).length).sum + 1 := by
  simp [counted, List.length_flatMap, Nat.add_comm]

/-! ### Records -/

@[simp] theorem length_general (g : General) : g.bytes.length = 6 := rfl
@[simp] theorem length_portCfg (c : PortCfg) : c.bytes.length = 2 := rfl
@[simp] theorem length_probeCfg (c : ProbeCfg) : c.bytes.length = 6 := rfl
@[simp] theorem length_doorCfg (c : DoorCfg) : c.bytes.length = 5 := rfl
@[simp] theorem length_compCfg (c : CompCfg) : c.bytes.length = 19 := rfl
@[simp] theorem length_classCfg (c : ClassCfg) : c.bytes.length = 19 := rfl

theorem length_entryBytes (st : Settings) (r : EntryRef) : (st.entryBytes r).length ≤ 19 := by
  cases r <;> simp [Settings.entryBytes]

@[simp] theorem length_account (a : Account) : a.bytes.length = 27 := by simp [Account.bytes]
@[simp] theorem length_proof (p : Proof) : p.bytes.length = 35 := by simp [Proof.bytes]
@[simp] theorem length_dispatchReceipt (r : DispatchReceipt) : r.bytes.length = 33 := by simp [DispatchReceipt.bytes]
@[simp] theorem length_returnReceipt (r : ReturnReceipt) : r.bytes.length = 33 := by simp [ReturnReceipt.bytes]
@[simp] theorem length_quantities (q : Quantities) : q.bytes.length = 12 := rfl

@[simp] theorem length_reportBytes (i : Slot) (l : Lot) : (l.reportBytes i).length = 113 := by
  simp [Lot.reportBytes, length_opt]

@[simp] theorem length_summary (x : HIndex × Handoff) : (Handoff.summary x).length = 55 := by
  simp [Handoff.summary, length_getD, -Option.getD_map]

@[simp] theorem length_reading (r : Reading) : r.bytes.length = 10 := by simp [Reading.bytes]
@[simp] theorem length_excursion (e : Excursion) : e.bytes.length = 15 := by simp [Excursion.bytes, length_opt]
@[simp] theorem length_doorLatch (l : Option DoorLatch) : (DoorLatch.bytes l).length = 11 := by
  simp [DoorLatch.bytes, length_opt]
@[simp] theorem length_defrostRecord (r : DefrostRecord) : r.bytes.length = 19 := by
  simp [DefrostRecord.bytes, length_opt]
@[simp] theorem length_ask (a : Ask) : a.bytes.length = 7 := by simp [Ask.bytes, length_opt]
@[simp] theorem length_stepRecord (r : StepRecord) : r.bytes.length = 13 := by simp [StepRecord.bytes]
@[simp] theorem length_refusal (ps : PortState) : ps.refusalBytes.length = 8 := by
  simp [PortState.refusalBytes, length_opt]
@[simp] theorem length_faultLatch (l : Option FaultLatch) : (FaultLatch.bytes l).length = 8 := by
  simp [FaultLatch.bytes, length_opt]
@[simp] theorem length_sample (x : Sample) : x.bytes.length = 7 := by simp [Sample.bytes]
@[simp] theorem length_figures (f : Figures) : f.bytes.length = 17 := rfl
@[simp] theorem length_flagBytes (st : Stop) : st.flagBytes.length = 4 := rfl

end Sys2Proof.Machine
end

section
/-!
PROOF. The capacities of section 0.7: no command takes a collection above its own, and no rule answers with a BODY of
more than 238 bytes.
-/
namespace Sys2Proof.Machine

/-! ### The capacities -/

/-- Every collection but those of the ports lies within its capacity. -/
structure Roomy (s : State) : Prop where
  claims : s.claims.length ≤ 16
  lots : ∀ i l, s.lots.get i = some l → l.handoffs.length ≤ 16
  stops : ∀ n st, s.stops.get n = some st → st.planned.length ≤ 8
  lists : ∀ c : Comp, (s.watches.get c).list.length ≤ 8
  rings : ∀ i : Probe, (s.probes.get i).ring.length ≤ 4
  report : s.report.all (fun r => decide (r.handoffs.length ≤ 16)) = true

theorem capacityLaw_iff (s : State) : s.capacityLaw ↔ Roomy s ∧ ∀ p : Port, (s.ports.get p).fits := by
  simp only [State.capacityLaw, Option.all_eq_true, decide_eq_true_eq, PortState.fits]
  constructor
  · rintro ⟨claims, lots, stops, lists, rings, ports, report⟩
    exact ⟨⟨claims, lots, stops, lists, rings, by simpa [Option.all_eq_true] using report⟩, ports⟩
  · rintro ⟨h, ports⟩
    exact ⟨h.claims, h.lots, h.stops, h.lists, h.rings, ports, by simpa [Option.all_eq_true] using h.report⟩

/-! ### Lots and stops whose lists do not grow -/

/-- No lot lists more handoffs in `t` than the law allows in `s`, and no stop more planned entries. -/
structure NotFuller (s t : State) : Prop where
  lots : ∀ i l', t.lots.get i = some l' → l'.handoffs.length ≤ 16 ∨
    ∃ l, s.lots.get i = some l ∧ l'.handoffs.length = l.handoffs.length
  stops : ∀ n st', t.stops.get n = some st' → st'.planned.length ≤ 8 ∨
    ∃ st, s.stops.get n = some st ∧ st'.planned.length = st.planned.length

section NotFuller

variable {s t u : State}

theorem NotFuller.refl (s : State) : NotFuller s s where
  lots _ l h := .inr ⟨l, h, rfl⟩
  stops _ st h := .inr ⟨st, h, rfl⟩

theorem NotFuller.trans (first : NotFuller s t) (second : NotFuller t u) : NotFuller s u where
  lots i l'' h'' := by
    rcases second.lots i l'' h'' with small | ⟨l', h', e'⟩
    · exact .inl small
    rcases first.lots i l' h' with small | ⟨l, h, e⟩
    · exact .inl (e' ▸ small)
    · exact .inr ⟨l, h, e'.trans e⟩
  stops n st'' h'' := by
    rcases second.stops n st'' h'' with small | ⟨st', h', e'⟩
    · exact .inl small
    rcases first.stops n st' h' with small | ⟨st, h, e⟩
    · exact .inl (e' ▸ small)
    · exact .inr ⟨st, h, e'.trans e⟩

theorem NotFuller.foldl {α : Type} {f : State → α → State} (h : ∀ s a, NotFuller s (f s a)) (as : List α) (s : State) :
    NotFuller s (as.foldl f s) := by
  induction as generalizing s with
  | nil => exact NotFuller.refl s
  | cons a as ih => exact (h s a).trans (ih (f s a))

theorem keeps.notFuller {xs : List Aspect} (h : keeps xs s t) (untouched : .goods ∉ xs ∧ .stopKeys ∉ xs) :
    NotFuller s t where
  lots i l' hl' := by
    have same := h .goods untouched.1 i
    rw [hl'] at same
    cases hl : s.lots.get i with
    | none => simp [hl] at same
    | some l =>
      simp only [hl, Option.map_some, Option.some.injEq, Lot.goods, Prod.mk.injEq] at same
      exact .inr ⟨l, rfl, by rw [same.2.2]⟩
  stops n st' hst' := by
    have same := h .stopKeys untouched.2 n
    rw [hst'] at same
    cases hst : s.stops.get n with
    | none => simp [hst] at same
    | some st =>
      simp only [hst, Option.map_some, Option.some.injEq, Stop.keys, Prod.mk.injEq] at same
      exact .inr ⟨st, rfl, by rw [same.2.2]⟩

/-- Changes that leave every lot's handoffs and every stop's planned entries as many as they were. -/
theorem notFuller_of_lengths (lots : ∀ i l', t.lots.get i = some l' →
      ∃ l, s.lots.get i = some l ∧ l'.handoffs.length = l.handoffs.length)
    (stops : ∀ n st', t.stops.get n = some st' →
      ∃ st, s.stops.get n = some st ∧ st'.planned.length = st.planned.length) : NotFuller s t :=
  ⟨fun i l h => .inr (lots i l h), fun n st h => .inr (stops n st h)⟩

theorem modLot_notFuller (s : State) (i : Slot) {f : Lot → Lot}
    (same : ∀ l, s.lots.get i = some l → (f l).handoffs = l.handoffs) : NotFuller s (s.modLot i f) where
  lots j l' h := by
    simp only [State.modLot_lots, get_modAt] at h
    split at h
    · next e =>
      subst e
      obtain ⟨l, hl, rfl⟩ := Option.map_eq_some_iff.1 h
      exact .inr ⟨l, hl, congrArg List.length (same l hl)⟩
    · exact .inr ⟨l', h, rfl⟩
  stops n st h := .inr ⟨st, h, rfl⟩

theorem modStop_notFuller (s : State) (n : StopNo) {f : Stop → Stop}
    (same : ∀ st, (f st).planned.length = st.planned.length) : NotFuller s (s.modStop n f) where
  lots i l h := .inr ⟨l, h, rfl⟩
  stops m st' h := by
    simp only [State.modStop_stops, get_modAt] at h
    split at h
    · obtain ⟨st, hst, rfl⟩ := Option.map_eq_some_iff.1 h
      exact .inr ⟨st, hst, same st⟩
    · exact .inr ⟨st', h, rfl⟩

/-- The lots and stops alone matter. -/
theorem notFuller_of_eq (lots : t.lots = s.lots) (stops : t.stops = s.stops) : NotFuller s t where
  lots _ l h := .inr ⟨l, lots ▸ h, rfl⟩
  stops _ st h := .inr ⟨st, stops ▸ h, rfl⟩

theorem judge_handoffs (l : Lot) : l.judge.handoffs = l.handoffs := by unfold Lot.judge; split <;> rfl

end NotFuller

variable (s : State)

theorem endOffer_notFuller (j : HIndex) (h : Handoff) (last : HandoffState) : NotFuller s (s.endOffer j h last) := by
  unfold State.endOffer
  refine NotFuller.trans (notFuller_of_eq (t := s.modHandoff j _) rfl rfl) (modLot_notFuller _ _ ?_)
  exact fun _ _ => rfl

theorem refuseOffer_notFuller (j : HIndex) (h : Handoff) (code : Word) (cond : Condition) :
    NotFuller s (s.refuseOffer j h code cond) := by
  unfold State.refuseOffer
  refine NotFuller.trans (notFuller_of_eq (t := s.modHandoff j _) rfl rfl) (modLot_notFuller _ _ ?_)
  exact fun _ _ => rfl

theorem acceptOffer_notFuller (j : HIndex) (h : Handoff) (l : Lot) (code : Word) (a : Nat) (cond : Condition) :
    NotFuller s (s.acceptOffer j h l code a cond) := by
  unfold State.acceptOffer
  refine NotFuller.trans (NotFuller.trans (notFuller_of_eq (t := s.modHandoff j _) rfl rfl) (modLot_notFuller _ _ ?_))
    ((post_keeps _ _).notFuller (by simp))
  exact fun _ _ => judge_handoffs _

theorem resolve_notFuller (j : HIndex) : NotFuller s (s.resolve j) := by
  unfold State.resolve
  split
  · split
    · exact endOffer_notFuller s j _ _
    · exact notFuller_of_eq rfl rfl
    · exact NotFuller.refl s
  · exact NotFuller.refl s

theorem closeStop_notFuller (n : StopNo) (st : Stop) : NotFuller s (s.closeStop n st) := by
  have resolved (as : List HIndex) : NotFuller s (as.foldl State.resolve (s.drainStop n)) :=
    ((drainStop_keeps s n).notFuller (by simp)).trans (NotFuller.foldl resolve_notFuller _ _)
  exact (resolved st.offers).trans ((modStop_notFuller (List.foldl _ _ _) n (by intro; rfl)).trans
    (notFuller_of_eq rfl rfl))

theorem keepRetained_notFuller (resumed : Bool) : NotFuller s (s.keepRetained resumed) := by
  have resolved : NotFuller s s.clampPools.resolveAll :=
    ((clampPools_keeps s).notFuller (by simp)).trans (NotFuller.foldl resolve_notFuller _ _)
  have kept (r : State) : NotFuller r
      (State.chargeGaps resumed { r with claims := r.claims.map Claim.atStart }).restartStopTimer := by
    have charged (t : State) : NotFuller t (t.chargeGaps resumed) :=
      NotFuller.foldl (fun u c => (chargeGap_keeps u resumed c).notFuller (by simp)) _ t
    exact ((setClaims_keeps r _).notFuller (by simp)).trans
      ((charged _).trans ((restartStopTimer_keeps _).notFuller (by simp)))
  exact resolved.trans (kept _)

theorem clearRetained_notFuller : NotFuller s s.clearRetained where
  lots i l h := by simp [State.clearRetained] at h
  stops n st h := by simp [State.clearRetained] at h

theorem startReady_notFuller : NotFuller s (startReady s) := by
  unfold startReady
  split
  · next cause _ =>
    have retained : NotFuller s (s.setRetained cause) := by
      unfold State.setRetained
      split
      · exact keepRetained_notFuller s _
      · exact (clearRetained_notFuller s).trans (notFuller_of_eq rfl rfl)
    refine NotFuller.trans ?_ ((startAssessor_keeps _).notFuller (by simp))
    exact retained.trans (notFuller_of_eq rfl rfl)
  · exact NotFuller.refl s

theorem mainPowerLoss_notFuller : NotFuller s (mainPowerLoss s) := by
  have cleared : NotFuller s (if s.marker then s else s.clearRetained) := by
    split
    · exact NotFuller.refl s
    · exact clearRetained_notFuller s
  unfold mainPowerLoss
  split
  · exact NotFuller.refl s
  · exact cleared.trans (notFuller_of_eq rfl rfl)

theorem backupSupplyLoss_notFuller : NotFuller s (backupSupplyLoss s) := by
  have cleared : NotFuller s (if s.phase = .off then s.clearRetained else s) := by
    split
    · exact clearRetained_notFuller s
    · exact NotFuller.refl s
  exact cleared.trans (notFuller_of_eq rfl rfl)

theorem ackTimerExpiry_notFuller (j : HIndex) : NotFuller s (ackTimerExpiry j s) := by
  unfold ackTimerExpiry
  split
  · split
    · split
      · exact (endOffer_notFuller s j _ _).trans ((post_keeps _ _).notFuller (by simp))
      · exact notFuller_of_eq rfl rfl
      · exact NotFuller.refl s
    · exact NotFuller.refl s
  · exact NotFuller.refl s

/-! ### The rules that fill a lot or a stop -/

theorem actLotLoad_notFuller (lot : Word) (k c : Byte) (q : Half) : NotFuller s (actLotLoad lot k c q s).state := by
  unfold actLotLoad
  split
  · exact NotFuller.refl s
  split
  · split
    · exact NotFuller.refl s
    split
    · exact NotFuller.refl s
    split
    · exact NotFuller.refl s
    · refine ⟨fun j l h => ?_, fun n st h => .inr ⟨st, h, rfl⟩⟩
      simp only [reply, get_setAt] at h
      split at h
      · obtain rfl := Option.some.inj h
        exact .inl (by simp [Lot.load])
      · exact .inr ⟨l, h, rfl⟩
  · exact NotFuller.refl s

theorem actLotWriteOff_notFuller (lot : Word) (q : Half) : NotFuller s (actLotWriteOff lot q s).state := by
  unfold actLotWriteOff
  split
  · exact NotFuller.refl s
  split
  · exact NotFuller.refl s
  next i l named =>
  split
  · exact NotFuller.refl s
  split
  · exact NotFuller.refl s
  · refine modLot_notFuller s i fun m hm => ?_
    cases hm.symm.trans (lotNamed_some named).1
    exact judge_handoffs _

theorem actLotRetire_notFuller (lot : Word) (force : Byte) : NotFuller s (actLotRetire lot force s).state := by
  have retired (i : Slot) (l : Lot) : NotFuller s (s.retire i l) := by
    refine ⟨fun j l' h => ?_, fun n st h => .inr ⟨st, h, rfl⟩⟩
    simp only [State.retire, State.freeClaims, get_setAt] at h
    split at h
    · cases h
    · exact .inr ⟨l', h, rfl⟩
  unfold actLotRetire
  repeat' split
  all_goals first
    | exact NotFuller.refl s
    | exact retired _ _

theorem actRouteBegin_notFuller (n : Half) : NotFuller s (actRouteBegin n s).state := by
  unfold actRouteBegin
  split
  · refine ⟨fun i l h => .inr ⟨l, h, rfl⟩, fun n st h => ?_⟩
    simp [reply] at h
  · exact NotFuller.refl s

theorem actStopLoad_notFuller (n : Byte) (x m : Word) (b l : Half) (planned : List (Word × Half)) :
    NotFuller s (actStopLoad n x m b l planned s).state := by
  unfold actStopLoad
  split
  · exact NotFuller.refl s
  split
  · exact NotFuller.refl s
  split
  · exact NotFuller.refl s
  next bounds =>
  split
  · exact NotFuller.refl s
  split
  · exact NotFuller.refl s
  · refine ⟨fun i l h => .inr ⟨l, h, rfl⟩, fun n st h => ?_⟩
    simp only [reply, get_setAt] at h
    split at h
    · obtain rfl := Option.some.inj h
      exact .inl (by simpa [Stop.load] using fun h' => bounds (.inl h'))
    · exact .inr ⟨st, h, rfl⟩

theorem actVanReturn_notFuller : NotFuller s (actVanReturn s).state := by
  unfold actVanReturn
  split
  · exact NotFuller.refl s
  · have lot (l : Lot) : (l.bringBack s.seconds).handoffs = l.handoffs := by unfold Lot.bringBack; split <;> rfl
    have stop (st : Stop) : st.skip.planned = st.planned := by unfold Stop.skip; split <;> rfl
    refine notFuller_of_lengths (fun i l' h => ?_) fun n st' h => ?_
    · simp only [reply, State.mapLots_lots, get_mapV] at h
      obtain ⟨l, hl, rfl⟩ := Option.map_eq_some_iff.1 h
      exact ⟨l, hl, by rw [lot]⟩
    · simp only [reply, State.mapLots_stops, get_mapV] at h
      obtain ⟨st, hst, rfl⟩ := Option.map_eq_some_iff.1 h
      exact ⟨st, hst, by rw [stop]⟩

theorem actStopOpen_notFuller (n : Byte) : NotFuller s (actStopOpen n s).state := by
  unfold actStopOpen
  repeat' split
  all_goals first
    | exact NotFuller.refl s
    | exact (modStop_notFuller s _ (by intro; rfl)).trans (notFuller_of_eq rfl rfl)

theorem actStopClose_notFuller : NotFuller s (actStopClose s).state := by
  unfold actStopClose
  split
  · exact NotFuller.refl s
  · exact closeStop_notFuller s _ _

/-- An offer takes the last place of a lot's sixteen at most. -/
theorem actHandoffOffer_notFuller (lot : Word) (q : Half) : NotFuller s (actHandoffOffer lot q s).state := by
  unfold actHandoffOffer
  split
  · exact NotFuller.refl s
  split
  · exact NotFuller.refl s
  split
  · exact NotFuller.refl s
  split
  · exact NotFuller.refl s
  split
  · exact NotFuller.refl s
  split
  · exact NotFuller.refl s
  split
  · exact NotFuller.refl s
  · next room =>
    refine NotFuller.trans ?_ (modStop_notFuller _ _ (by intro; rfl))
    refine ⟨fun i l' h => ?_, fun n st h => .inr ⟨st, h, rfl⟩⟩
    simp only [get_setAt] at h
    split at h
    · obtain rfl := Option.some.inj h
      exact .inl (by simpa using room)
    · exact .inr ⟨l', h, rfl⟩

theorem actHandoffAccept_notFuller (i : Byte) (code : Word) (a : Half) (cond : Byte) :
    NotFuller s (actHandoffAccept i code a cond s).state := by
  unfold actHandoffAccept
  split
  · split
    · exact NotFuller.refl s
    split
    · exact NotFuller.refl s
    split
    · exact NotFuller.refl s
    split
    · exact notFuller_of_eq rfl rfl
    split
    · exact refuseOffer_notFuller s _ _ _ _
    split
    · exact NotFuller.refl s
    · exact acceptOffer_notFuller s _ _ _ _ _ _
  · exact NotFuller.refl s

theorem actHandoffWithdraw_notFuller (i : Byte) : NotFuller s (actHandoffWithdraw i s).state := by
  unfold actHandoffWithdraw
  repeat' split
  all_goals first
    | exact NotFuller.refl s
    | exact endOffer_notFuller s _ _ _

end Sys2Proof.Machine
end

section
/-!
PROOF. The capacities, command by command, and the length of every rule's BODY.
-/
namespace Sys2Proof.Machine

variable (s : State)

/-! ### The claims -/

/-- No more claims than before, or than sixteen. -/
def FewClaims (s t : State) : Prop := t.claims.length ≤ s.claims.length ∨ t.claims.length ≤ 16

section FewClaims

variable {s t u : State}

theorem FewClaims.refl (s : State) : FewClaims s s := .inl (le_refl _)

theorem FewClaims.trans (first : FewClaims s t) (second : FewClaims t u) : FewClaims s u := by
  unfold FewClaims at *
  omega

theorem keeps.fewClaims {xs : List Aspect} (h : keeps xs s t) (untouched : .claims ∉ xs) : FewClaims s t :=
  .inl (congrArg List.length (h .claims untouched)).le

theorem modClaim_fewClaims (s : State) (n : Nat) (f : Claim → Claim) : FewClaims s (s.modClaim n f) :=
  .inl (by simp)

theorem freeClaims_fewClaims (s : State) (gone : Claim → Bool) : FewClaims s (s.freeClaims gone) :=
  .inl (List.length_filter_le _ _)

theorem startAssessor_fewClaims (s : State) : FewClaims s s.startAssessor := by
  have numbers := congrArg List.length (startAssessor_frame s).2.1
  exact .inl (by simpa using numbers.le)

theorem modOpenClaims_fewClaims (s : State) (j : HIndex) (f : Nat → Nat) : FewClaims s (s.modOpenClaims j f) :=
  (modOpenClaims_keeps s j f).fewClaims (by simp)

end FewClaims

theorem withdrawClaim_fewClaims (c : Claim) : FewClaims s (s.withdrawClaim c) :=
  (modClaim_fewClaims s _ _).trans (modOpenClaims_fewClaims _ _ _)

theorem clearRetained_fewClaims : FewClaims s s.clearRetained := .inr (by simp [State.clearRetained])

theorem actClaimLodge_fewClaims (i : Byte) (code : Word) (q : Half) : FewClaims s (actClaimLodge i code q s).state := by
  unfold actClaimLodge
  split
  · exact FewClaims.refl s
  split
  · exact FewClaims.refl s
  split
  · exact FewClaims.refl s
  split
  · dsimp only
    split
    · exact FewClaims.refl s
    split
    · exact FewClaims.refl s
    split
    · exact FewClaims.refl s
    split
    · exact FewClaims.refl s
    split
    · exact FewClaims.refl s
    · next room =>
      refine FewClaims.trans ?_ ((modOpenClaims_fewClaims _ _ _).trans (startAssessor_fewClaims _))
      exact .inr (by simp; omega)
  · exact FewClaims.refl s

theorem assessmentCompletion_fewClaims : FewClaims s (assessmentCompletion s) := by
  have verdict (a : Assessment) : FewClaims s (s.applyVerdict a) := by
    unfold State.applyVerdict
    split
    · exact ((modClaim_fewClaims s _ _).trans (modOpenClaims_fewClaims _ _ _)).trans
        ((post_keeps _ _).fewClaims (by simp))
    · exact FewClaims.refl s
  unfold assessmentCompletion
  split
  next a _ =>
    split
    · refine FewClaims.trans ?_ (startAssessor_fewClaims _)
      have ended : FewClaims s (if a.discard then s else s.applyVerdict a) := by
        split
        · exact FewClaims.refl s
        · exact verdict a
      exact ended
    · exact FewClaims.refl s
  · exact FewClaims.refl s

theorem startReady_fewClaims : FewClaims s (startReady s) := by
  unfold startReady
  split
  · next cause _ =>
    have retained : FewClaims s (s.setRetained cause) := by
      unfold State.setRetained
      split
      · exact .inl (by rw [(keepRetained_claims s _).1, List.length_map])
      · exact clearRetained_fewClaims s
    refine FewClaims.trans ?_ (startAssessor_fewClaims _)
    exact retained
  · exact FewClaims.refl s

theorem rule_fewClaims (c : Instr) : FewClaims s (ruleOf c s).state := by
  by_cases touched : Aspect.claims ∈ touches c
  · cases c <;> simp [touches, startTouches, scanTouches, partyTouches, retainedTouches] at touched
    case lotRetire lot force =>
      change FewClaims s (actLotRetire lot force s).state
      unfold actLotRetire
      repeat' split
      all_goals first
        | exact FewClaims.refl s
        | exact freeClaims_fewClaims s _
    case claimLodge i code q => exact actClaimLodge_fewClaims s i code q
    case claimWithdraw n =>
      change FewClaims s (actClaimWithdraw n s).state
      unfold actClaimWithdraw
      repeat' split
      all_goals first
        | exact FewClaims.refl s
        | exact withdrawClaim_fewClaims s _
    case claimFetch n =>
      change FewClaims s (actClaimFetch n s).state
      unfold actClaimFetch
      repeat' split
      all_goals first
        | exact FewClaims.refl s
        | exact modClaim_fewClaims s _ _
    case claimClear n =>
      change FewClaims s (actClaimClear n s).state
      unfold actClaimClear
      repeat' split
      all_goals first
        | exact FewClaims.refl s
        | exact freeClaims_fewClaims s _
    all_goals exact FewClaims.refl s
  · exact (rule_keeps s c).fewClaims touched

theorem event_fewClaims (c : Instr) : FewClaims s (eventOf c s) := by
  by_cases touched : Aspect.claims ∈ touches c
  · cases c <;> simp [touches, startTouches, scanTouches, partyTouches, retainedTouches] at touched
    case assessmentCompletion => exact assessmentCompletion_fewClaims s
    case startReady => exact startReady_fewClaims s
    case mainPowerLoss =>
      have cleared : FewClaims s (if s.marker then s else s.clearRetained) := by
        split
        · exact FewClaims.refl s
        · exact clearRetained_fewClaims s
      change FewClaims s (mainPowerLoss s)
      unfold mainPowerLoss
      split
      · exact FewClaims.refl s
      · exact cleared
    case backupSupplyLoss =>
      have cleared : FewClaims s (if s.phase = .off then s.clearRetained else s) := by
        split
        · exact clearRetained_fewClaims s
        · exact FewClaims.refl s
      exact cleared
    all_goals exact FewClaims.refl s
  · exact (event_keeps s c).fewClaims touched

/-! ### Lots and stops -/

theorem rule_notFuller (c : Instr) : NotFuller s (ruleOf c s).state := by
  by_cases untouched : .goods ∉ touches c ∧ .stopKeys ∉ touches c
  · exact (rule_keeps s c).notFuller untouched
  · cases c <;> simp [touches, startTouches, scanTouches, partyTouches, retainedTouches] at untouched
    case lotLoad lot k c q => exact actLotLoad_notFuller s lot k c q
    case lotWriteOff lot q => exact actLotWriteOff_notFuller s lot q
    case lotRetire lot force => exact actLotRetire_notFuller s lot force
    case routeBegin n => exact actRouteBegin_notFuller s n
    case stopLoad n x m b l planned => exact actStopLoad_notFuller s n x m b l planned
    case vanReturn => exact actVanReturn_notFuller s
    case stopOpen n => exact actStopOpen_notFuller s n
    case stopClose => exact actStopClose_notFuller s
    case handoffOffer lot q => exact actHandoffOffer_notFuller s lot q
    case handoffAccept i code a cond => exact actHandoffAccept_notFuller s i code a cond
    case handoffWithdraw i => exact actHandoffWithdraw_notFuller s i
    all_goals exact NotFuller.refl s

theorem event_notFuller (c : Instr) : NotFuller s (eventOf c s) := by
  by_cases untouched : .goods ∉ touches c ∧ .stopKeys ∉ touches c
  · exact (event_keeps s c).notFuller untouched
  · cases c <;> simp [touches, startTouches, scanTouches, partyTouches, retainedTouches] at untouched
    case startReady => exact startReady_notFuller s
    case mainPowerLoss => exact mainPowerLoss_notFuller s
    case backupSupplyLoss => exact backupSupplyLoss_notFuller s
    case ackTimerExpiry j => exact ackTimerExpiry_notFuller s j
    all_goals exact NotFuller.refl s

/-! ### Every collection -/

section Roomy

variable {s} {t : State}

theorem Roomy.next (room : Roomy s) {xs : List Aspect} (h : keeps xs s t) (untouched : .lists ∉ xs ∧ .rings ∉ xs)
    (claims : FewClaims s t) (notFuller : NotFuller s t)
    (report : t.report.all (fun r => decide (r.handoffs.length ≤ 16)) = true) : Roomy t where
  claims := by
    have := room.claims
    rcases claims with h | h <;> omega
  lots i l' h := by
    rcases notFuller.lots i l' h with small | ⟨l, hl, e⟩
    · exact small
    · exact e ▸ room.lots i l hl
  stops n st' h := by
    rcases notFuller.stops n st' h with small | ⟨st, hst, e⟩
    · exact small
    · exact e ▸ room.stops n st hst
  lists c := h .lists untouched.1 c (room.lists c)
  rings i := h .rings untouched.2 i (room.rings i)
  report := report

theorem Roomy.keeps (room : Roomy s) {xs : List Aspect} (h : keeps xs s t) (untouched : .lists ∉ xs ∧ .rings ∉ xs ∧
    .claims ∉ xs ∧ .goods ∉ xs ∧ .stopKeys ∉ xs ∧ .reportSize ∉ xs) : Roomy t := by
  obtain ⟨lists, rings, claims, goods, stops, report⟩ := untouched
  exact room.next h ⟨lists, rings⟩ (h.fewClaims claims) (h.notFuller ⟨goods, stops⟩) (h .reportSize report room.report)

/-- No command may take an excursion list, a history ring or a port's queues above their capacities. -/
theorem touches_bounded (c : Instr) : Aspect.lists ∉ touches c ∧ .rings ∉ touches c ∧ .fits ∉ touches c ∧
    .lawful ∉ touches c := by
  cases c <;> simp [touches, startTouches, scanTouches, partyTouches, retainedTouches]

/-- The report slot latches a lot's handoffs, sixteen at most. -/
theorem actReportLot_report (room : Roomy s) (p : Port) (lot : Word) (page : Byte) :
    (actReportLot p lot page s).state.report.all (fun r => decide (r.handoffs.length ≤ 16)) = true := by
  unfold actReportLot
  split
  · exact room.report
  split
  · repeat' split
    all_goals first
      | exact room.report
      | rfl
  split
  · exact room.report
  · next i l named =>
    have few : (s.latchReport p i l).handoffs.length ≤ l.handoffs.length := List.length_filterMap_le _ _
    simpa [reply] using few.trans (room.lots i l (lotNamed_some named).1)

theorem rule_roomy (room : Roomy s) (c : Instr) : Roomy (ruleOf c s).state := by
  have bounded := touches_bounded c
  refine room.next (rule_keeps s c) ⟨bounded.1, bounded.2.1⟩ (rule_fewClaims s c) (rule_notFuller s c) ?_
  by_cases touched : Aspect.reportSize ∈ touches c
  · cases c <;> simp [touches, startTouches, scanTouches, partyTouches, retainedTouches] at touched
    case reportLot p _ lot page => exact actReportLot_report room p lot page
  · exact rule_keeps s c .reportSize touched room.report

theorem event_roomy (room : Roomy s) (c : Instr) : Roomy (eventOf c s) := by
  have bounded := touches_bounded c
  refine room.next (event_keeps s c) ⟨bounded.1, bounded.2.1⟩ (event_fewClaims s c) (event_notFuller s c) ?_
  by_cases touched : Aspect.reportSize ∈ touches c
  · cases c <;> simp [touches, startTouches, scanTouches, partyTouches, retainedTouches] at touched
    case reportLot => exact room.report
  · exact event_keeps s c .reportSize touched room.report

end Roomy

end Sys2Proof.Machine
end

section
/-!
PROOF. The BODY of every response (R163), and with it the law of the collections and of the watches.
-/
namespace Sys2Proof.Machine

variable {s : State}

/-! ### Bodies with lists -/

theorem length_portStatusBody (p : Port) : (portStatusBody p s).length ≤ 238 := by
  have held (r : Report) : r.held.length = 8 := by simp [Report.held, length_opt]
  simp [portStatusBody, length_opt, held]

theorem length_defrostStatusBody (c : Comp) : (defrostStatusBody c s).length ≤ 238 := by
  simp [defrostStatusBody, length_opt]

theorem length_doorStatusBody (d : Comp) : (doorStatusBody d s).length ≤ 238 := by
  simp [doorStatusBody, length_opt]

theorem length_handoffStatusBody (j : HIndex) (h : Handoff) : (handoffStatusBody j h s).length ≤ 238 := by
  unfold handoffStatusBody
  simp only [List.length_append, length_u8, length_u16, length_halfBytes, length_wordBytes,
    length_flag, length_timeBytes, length_opt, length_account, length_proof, Nat.reduceAdd, elim_same]
  omega

theorem length_fetchBody (c : Claim) : c.fetchBody.length ≤ 238 := by
  simp [Claim.fetchBody, length_opt, length_getD, -Option.getD_map]

/-- The excursion list is what varies (R35). -/
theorem actCompartmentStatus_body (room : Roomy s) (c : Byte) : (actCompartmentStatus c s).body.length ≤ 238 := by
  unfold actCompartmentStatus
  split
  · simp [reply]
  · next c _ =>
    have := room.lists c
    simp [reply, scannerPart, watchPart, doorPart, defrostPart, exposurePart, length_opt, length_counted]
    omega

theorem actProbeStatus_body (room : Roomy s) (i : Byte) : (actProbeStatus i s).body.length ≤ 238 := by
  unfold actProbeStatus
  split
  · simp [reply]
  · next i _ =>
    have := room.rings i
    simp [reply, length_counted]
    omega

theorem actLotStatus_body (room : Roomy s) (lot : Word) (part : Byte) :
    (actLotStatus lot part s).body.length ≤ 238 := by
  unfold actLotStatus
  split
  · simp [reply]
  split
  · simp [reply]
  next i l named =>
  have few := room.lots i l (lotNamed_some named).1
  have entry (j : HIndex) : (s.listedHandoff j).length = 5 := by
    unfold State.listedHandoff
    cases s.handoffs.get j <;> simp
  dsimp only [reply]
  split
  · simp [Lot.part0]
  · simp [Lot.part1, length_opt]
  · simp [length_counted, entry]
    omega

theorem actLotList_body (first : Byte) : (actLotList first s).body.length ≤ 238 := by
  have entry (x : Slot × Lot) : (lotEntry x).length = 12 := by simp [lotEntry]
  unfold actLotList
  split
  · simp [reply]
  · simp [reply, length_counted, length_opt, entry]
    omega

/-- Four handoffs at most make a page (R184). -/
theorem length_page (r : Report) (n : Nat) : (r.page n).length ≤ 238 := by
  unfold Report.page
  split
  · simp
  · simp [length_counted]
    omega

theorem actReportLot_body (p : Port) (lot : Word) (page : Byte) : (actReportLot p lot page s).body.length ≤ 238 := by
  unfold actReportLot
  repeat' split
  all_goals first
    | exact length_page _ _
    | simp [reply]

/-- The planned entries are what varies (R114). -/
theorem actStopClose_body (room : Roomy (actStopClose s).state) : (actStopClose s).body.length ≤ 238 := by
  revert room
  unfold actStopClose
  split
  · simp [reply]
  · next n st _ =>
    intro room
    have entry (e : (Word × Nat) × Nat) : (entryBytes e).length = 4 := rfl
    dsimp only [reply] at room ⊢
    unfold closeBody
    split
    · next after found =>
      have := room.stops n after found
      simp [length_counted, entry]
      omega
    · simp

theorem length_stopPart (n : StopNo) (st : Stop) (few : st.planned.length ≤ 8) : (stopPart s n st).length ≤ 130 := by
  have entry (e : (Word × Nat) × Nat) : (statusEntry e).length = 8 := rfl
  simp [stopPart, length_counted, length_opt, List.length_flatMap, entry]
  omega

theorem actStopStatus_body (room : Roomy s) (n : Byte) : (actStopStatus n s).body.length ≤ 238 := by
  have route : (routePart s).length = 25 := by simp [routePart, length_opt]
  unfold actStopStatus
  split
  · simp [reply]
  · next n _ =>
    have part : (s.stops.get n).elim 40 (fun st => (stopPart s n st).length) ≤ 130 := by
      cases found : s.stops.get n with
      | none => simp
      | some st => exact length_stopPart n st (room.stops n st found)
    simp only [reply, List.length_append, route, length_opt]
    omega

theorem actClaimList_body (room : Roomy s) : (actClaimList s).body.length ≤ 238 := by
  have entry (c : Claim) : c.entry.length = 11 := by simp [Claim.entry, length_opt]
  have := room.claims
  simp [actClaimList, reply, length_counted, length_opt, entry]
  omega

theorem actDispatch_body : (actDispatch s).body.length ≤ 238 := by
  have few : s.openDoors.length ≤ 4 := (List.length_filter_le _ _).trans (by simp)
  unfold actDispatch
  dsimp only
  repeat' split
  all_goals simp [reply, length_counted]
  omega

theorem actSettingsGet_body (g i : Byte) : (actSettingsGet g i s).body.length ≤ 238 := by
  unfold actSettingsGet
  split
  · simp [reply]
  · next r _ =>
    have := length_entryBytes s.settings r
    simp [reply]
    omega

theorem actSettingsPut_body (p : Port) (g i : Byte) (entry : List Byte) :
    (actSettingsPut p g i entry s).body.length ≤ 238 := by
  unfold actSettingsPut
  split
  · simp [reply]
  split
  · simp [reply]
  next r _ =>
  split
  · simp [reply]
  split
  · simp [reply]
  split
  · simp [reply]
  split
  · simp [reply]
  · exact (length_entryBytes s.settings r).trans (by omega)

theorem actHandoffAccept_body (i : Byte) (code : Word) (a : Half) (cond : Byte) :
    (actHandoffAccept i code a cond s).body.length ≤ 238 := by
  unfold actHandoffAccept
  split
  · split
    · simp [reply]
    split
    · simp [reply]
    split
    · simp [reply]
    split
    · simp [reply]
    split
    · simp [reply]
    split
    · simp [reply]
    · simp only [reply, List.length_append, length_u8, length_proof, length_halfBytes]
      omega
  · simp [reply]

/-! ### Bodies of a fixed length -/

theorem actCountersClear_body (p : Port) : (actCountersClear p s).body.length ≤ 238 := by
  unfold actCountersClear
  simp

theorem actNoticeEnable_body (p : Port) (v : Byte) : (actNoticeEnable p v s).body.length ≤ 238 := by
  unfold actNoticeEnable
  repeat' split
  all_goals simp [reply]

theorem actScanBid_body (p : Port) (n : Half) : (actScanBid p n s).body.length ≤ 238 := by
  unfold actScanBid
  simp [length_opt]

theorem actClockGet_body : (actClockGet s).body.length ≤ 238 := by
  unfold actClockGet
  simp [reply]

theorem actClockSet_body (n : Word) : (actClockSet n s).body.length ≤ 238 := by
  unfold actClockSet
  repeat' split
  all_goals simp [reply]

theorem actRestart_body : (actRestart s).body.length ≤ 238 := by
  unfold actRestart
  repeat' split
  all_goals simp [reply]

theorem actProbeClear_body (i : Byte) : (actProbeClear i s).body.length ≤ 238 := by
  unfold actProbeClear
  repeat' split
  all_goals simp [reply]

theorem actWatchRearm_body (c : Byte) : (actWatchRearm c s).body.length ≤ 238 := by
  unfold actWatchRearm
  repeat' split
  all_goals simp [reply]

theorem actDoorRearm_body (d : Byte) : (actDoorRearm d s).body.length ≤ 238 := by
  unfold actDoorRearm
  repeat' split
  all_goals simp [reply]

theorem actDefrostAsk_body (c : Byte) : (actDefrostAsk c s).body.length ≤ 238 := by
  unfold actDefrostAsk
  repeat' split
  all_goals simp [reply]

theorem actDefrostEnd_body (c : Byte) : (actDefrostEnd c s).body.length ≤ 238 := by
  unfold actDefrostEnd
  dsimp only
  repeat' split
  all_goals simp [reply, length_getD, -Option.getD_map]

theorem actLotLoad_body (lot : Word) (k c : Byte) (q : Half) : (actLotLoad lot k c q s).body.length ≤ 238 := by
  unfold actLotLoad
  repeat' split
  all_goals simp [reply]

theorem actLotMove_body (lot : Word) (c : Byte) : (actLotMove lot c s).body.length ≤ 238 := by
  unfold actLotMove
  repeat' split
  all_goals simp [reply]

theorem actLotWriteOff_body (lot : Word) (q : Half) : (actLotWriteOff lot q s).body.length ≤ 238 := by
  unfold actLotWriteOff
  repeat' split
  all_goals simp [reply]

theorem actLotRetire_body (lot : Word) (force : Byte) : (actLotRetire lot force s).body.length ≤ 238 := by
  unfold actLotRetire
  repeat' split
  all_goals simp [reply]

theorem actRouteBegin_body (n : Half) : (actRouteBegin n s).body.length ≤ 238 := by
  unfold actRouteBegin
  repeat' split
  all_goals simp [reply]

theorem actStopLoad_body (n : Byte) (x m : Word) (b l : Half) (planned : List (Word × Half)) :
    (actStopLoad n x m b l planned s).body.length ≤ 238 := by
  unfold actStopLoad
  repeat' split
  all_goals simp [reply]

theorem actVanReturn_body : (actVanReturn s).body.length ≤ 238 := by
  unfold actVanReturn
  repeat' split
  all_goals simp [reply]

theorem actStopOpen_body (n : Byte) : (actStopOpen n s).body.length ≤ 238 := by
  unfold actStopOpen
  repeat' split
  all_goals simp [reply]

theorem actHandoffOffer_body (lot : Word) (q : Half) : (actHandoffOffer lot q s).body.length ≤ 238 := by
  unfold actHandoffOffer
  repeat' split
  all_goals simp [reply]

theorem actHandoffCopied_body (i : Byte) (v : Half) : (actHandoffCopied i v s).body.length ≤ 238 := by
  unfold actHandoffCopied
  dsimp only
  repeat' split
  all_goals simp [reply]

theorem actHandoffWithdraw_body (i : Byte) : (actHandoffWithdraw i s).body.length ≤ 238 := by
  unfold actHandoffWithdraw
  repeat' split
  all_goals simp [reply]

theorem actClaimLodge_body (i : Byte) (code : Word) (q : Half) : (actClaimLodge i code q s).body.length ≤ 238 := by
  unfold actClaimLodge
  dsimp only
  repeat' split
  all_goals simp [reply]

theorem actClaimWithdraw_body (n : Half) : (actClaimWithdraw n s).body.length ≤ 238 := by
  unfold actClaimWithdraw
  repeat' split
  all_goals simp [reply]

theorem actClaimClear_body (n : Half) : (actClaimClear n s).body.length ≤ 238 := by
  unfold actClaimClear
  repeat' split
  all_goals simp [reply, length_opt]

/-! ### Status bodies -/

theorem actDefrostStatus_body (c : Byte) : (actDefrostStatus c s).body.length ≤ 238 := by
  unfold actDefrostStatus
  split
  · simp [reply]
  · exact length_defrostStatusBody _

theorem actDoorStatus_body (d : Byte) : (actDoorStatus d s).body.length ≤ 238 := by
  unfold actDoorStatus
  split
  · simp [reply]
  · exact length_doorStatusBody _

theorem actHandoffStatus_body (i : Byte) : (actHandoffStatus i s).body.length ≤ 238 := by
  unfold actHandoffStatus
  split
  · simp [reply]
  split
  · simp [reply]
  · exact length_handoffStatusBody _ _

theorem actClaimFetch_body (n : Half) : (actClaimFetch n s).body.length ≤ 238 := by
  unfold actClaimFetch
  split
  · simp [reply]
  split
  · simp [reply]
  split
  · exact length_fetchBody _
  all_goals simp [reply]

/-! ### Every rule -/

/-- No rule answers with a BODY that does not fit its frame (R163). -/
theorem rule_body (room : Roomy s) (c : Instr) : (ruleOf c s).body.length ≤ 238 := by
  cases c
  case portStatus p _ => exact length_portStatusBody p
  case settingsGet g i => exact actSettingsGet_body g i
  case settingsPut p _ g i entry => exact actSettingsPut_body p g i entry
  case compartmentStatus c => exact actCompartmentStatus_body room c
  case probeStatus i => exact actProbeStatus_body room i
  case lotStatus lot part => exact actLotStatus_body room lot part
  case lotList first => exact actLotList_body first
  case reportLot p _ lot page => exact actReportLot_body p lot page
  case dispatch => exact actDispatch_body
  case stopClose => exact actStopClose_body (rule_roomy room (.stopClose 0 0))
  case handoffAccept i code a cond => exact actHandoffAccept_body i code a cond
  case stopStatus n => exact actStopStatus_body room n
  case claimList => exact actClaimList_body room
  case countersClear p _ => exact actCountersClear_body p
  case noticeEnable p _ v => exact actNoticeEnable_body p v
  case scanBid p _ n => exact actScanBid_body p n
  case clockGet => exact actClockGet_body
  case clockSet n => exact actClockSet_body n
  case restart => exact actRestart_body
  case probeClear i => exact actProbeClear_body i
  case watchRearm c => exact actWatchRearm_body c
  case doorRearm d => exact actDoorRearm_body d
  case defrostAsk c => exact actDefrostAsk_body c
  case defrostEnd c => exact actDefrostEnd_body c
  case lotLoad lot k c q => exact actLotLoad_body lot k c q
  case lotMove lot c => exact actLotMove_body lot c
  case lotWriteOff lot q => exact actLotWriteOff_body lot q
  case lotRetire lot force => exact actLotRetire_body lot force
  case routeBegin n => exact actRouteBegin_body n
  case stopLoad n x m b l planned => exact actStopLoad_body n x m b l planned
  case vanReturn => exact actVanReturn_body
  case stopOpen n => exact actStopOpen_body n
  case handoffOffer lot q => exact actHandoffOffer_body lot q
  case handoffCopied i v => exact actHandoffCopied_body i v
  case handoffWithdraw i => exact actHandoffWithdraw_body i
  case claimLodge i code q => exact actClaimLodge_body i code q
  case claimWithdraw n => exact actClaimWithdraw_body n
  case claimClear n => exact actClaimClear_body n
  case defrostStatus c => exact actDefrostStatus_body c
  case doorStatus d => exact actDoorStatus_body d
  case handoffStatus i => exact actHandoffStatus_body i
  case claimFetch n => exact actClaimFetch_body n
  all_goals simp [ruleOf, reply]

/-! ### The laws -/

theorem capacityLaw_law : Law State.capacityLaw where
  quiet {s t} h hs := by
    rw [capacityLaw_iff] at hs ⊢
    exact ⟨hs.1.keeps h (by simp), fun p => h .fits (by simp) p (hs.2 p)⟩
  answer c s p kind answer tag hs := by
    rw [capacityLaw_iff] at hs ⊢
    have answered := respond_keeps p kind answer tag (ruleOf c s) (rule_body hs.1 c)
    exact ⟨(rule_roomy hs.1 c).keeps answered (by simp),
      fun q => answered .fits (by simp) q (rule_keeps s c .fits (touches_bounded c).2.2.1 q (hs.2 q))⟩
  event c s hs := by
    rw [capacityLaw_iff] at hs ⊢
    exact ⟨event_roomy hs.1 c, fun q => event_keeps s c .fits (touches_bounded c).2.2.1 q (hs.2 q)⟩
  idle s hs := by
    rw [capacityLaw_iff] at hs ⊢
    exact ⟨hs.1.keeps (idle_keeps s) (by simp), fun q => idle_keeps s .fits (by simp) q (hs.2 q)⟩

theorem watchLaw_law : Law State.watchLaw where
  quiet h hs := h .lawful (by simp) hs
  answer c s p kind answer tag hs := respond_keeps_all p kind answer tag _ .lawful (by simp)
    (rule_keeps s c .lawful (touches_bounded c).2.2.2 hs)
  event c s hs := event_keeps s c .lawful (touches_bounded c).2.2.2 hs
  idle s hs := idle_keeps s .lawful (by simp) hs

end Sys2Proof.Machine

namespace Sys2Proof.Proofs

open Sys2Proof.Machine

/-- Settles O57: each collection is filled by a rule that checks its room, each BODY has its length counted, and each
watch changes by lawful steps alone. -/
theorem capacityLawKept : Obligations.CapacityLawKept := fun _ _ step =>
  ⟨fun law => capacityLaw_law.step law step, fun law => watchLaw_law.step law step⟩

end Sys2Proof.Proofs
end

section
/-!
PROOF. The step and the handling of requests (sections 10.2 to 10.5, 11.2): every command answers, a refusal changes
nothing but the port, and what the response to a request holds.
-/
namespace Sys2Proof.Machine

/-! ### The queue -/

theorem takeRequest_pending (c : Instr) (p : Port) (kind tag : Byte) (s : State) :
    (takeRequest p kind tag (ruleOf c) s).pending = s.pending := by
  have rule : (ruleOf c s).state.pending = s.pending :=
    rule_keeps s c .pending (by cases c <;> simp [touches, startTouches, scanTouches, partyTouches, retainedTouches])
  rcases takeRequest_cases p kind tag (ruleOf c) s with h | h | ⟨-, h⟩ | h | h <;> rw [h] <;> simp [rule, reply]

theorem event_pending (c : Instr) (s : State) : (eventOf c s).pending = s.pending :=
  event_keeps s c .pending (by cases c <;> simp [touches, startTouches, scanTouches, partyTouches, retainedTouches])

/-- A frame that is handed over is served, discarded or refused, and the queue is left alone. -/
theorem handFrame_answers (p : Port) (kind tag : Byte) (body : List Byte) (s : State) :
    ∃ t, handFrame p kind tag body s = .next t ∧ t.pending = s.pending := by
  unfold handFrame
  split
  · exact ⟨_, rfl, event_pending (.undefinedRequest p kind tag) s⟩
  · refine ⟨_, rfl, ?_⟩
    rcases takeRequest_cases p kind tag (reply .badRequest) s with h | h | ⟨-, h⟩ | h | h <;> rw [h] <;> simp [reply]
  · next c _ =>
    cases request : encodeRequest c with
    | none => exact ⟨s, serve_other request s, rfl⟩
    | some r =>
      obtain ⟨q, kind', tag', body'⟩ := r
      rw [serve_request request, exec_request request]
      exact ⟨_, rfl, takeRequest_pending c q kind' tag' s⟩

theorem byteReceived_answers (p : Port) (b : Byte) (framingError : Bool) (s : State) :
    ∃ t, byteReceived p b framingError s = .next t ∧ t.pending = s.pending := by
  unfold byteReceived
  split
  · exact ⟨s, rfl, rfl⟩
  have silent : (interByteTimeout p s).pending = s.pending := event_pending (.interByteTimeout p) s
  rw [← silent]
  unfold State.byteEffect
  split
  · exact ⟨_, rfl, rfl⟩
  · exact ⟨_, rfl, rfl⟩
  · exact handFrame_answers p _ _ _ (State.modPort _ p _)

/-- Every command answers a next state and keeps the queue. -/
theorem exec_answers (c : Instr) (s : State) : ∃ t, exec c s = .next t ∧ t.pending = s.pending := by
  rcases command_kinds c with ⟨p, kind, tag, body, request⟩ | ⟨p, b, framingError, rfl⟩ | ⟨-, event⟩
  · exact ⟨_, exec_request request s, takeRequest_pending c p kind tag s⟩
  · exact byteReceived_answers p b framingError s
  · exact ⟨_, event s, event_pending c s⟩

/-! ### The CRC-16 (R182) -/

/-- One bit enters the register. -/
def crcBit (r : Half) (bit : Bool) : Half := if (r.msb != bit) = true then (r <<< 1) ^^^ 0x1021 else r <<< 1

/-- Bits that were added to the register beforehand enter it one by one. -/
theorem crcShift_xor (k : Nat) (r m : Half) :
    crcShift (k + 1) (r ^^^ m) = crcShift k (crcBit r m.msb ^^^ (m <<< 1)) := by
  rw [crcShift, BitVec.msb_xor, BitVec.shiftLeft_xor_distrib]
  congr 1
  unfold crcBit
  cases r.msb <;> cases m.msb <;> simp [BitVec.xor_assoc, BitVec.xor_comm (m <<< 1)]

/-- The bits of a byte that stands in the upper half of the register. -/
theorem upper_msb (b : Byte) {i : Nat} (h : i < 8) : (readHalf b 0 <<< i).msb = b.getLsbD (7 - i) := by
  rw [BitVec.msb_eq_getLsbD_last, BitVec.getLsbD_shiftLeft, readHalf_bit, if_neg (by omega)]
  simp [show ¬ 15 < i by omega, show 15 - i - 8 = 7 - i by omega]

/-- The last `k` bits of a byte, most significant first. -/
theorem crcShift_bits (b : Byte) (k i : Nat) (r : Half) (h : k + i = 8) :
    crcShift k (r ^^^ (readHalf b 0 <<< i)) = ((List.range k).reverse.map b.getLsbD).foldl crcBit r := by
  induction k generalizing i r with
  | zero =>
    have shifted : readHalf b 0 <<< i = 0 := by
      obtain rfl : i = 8 := by omega
      apply BitVec.eq_of_getLsbD_eq
      intro j hj
      rw [BitVec.getLsbD_shiftLeft, readHalf_bit]
      simp
      omega
    rw [shifted]
    simp [crcShift]
  | succ k ih =>
    rw [crcShift_xor, upper_msb b (by omega), ← BitVec.shiftLeft_add, ih (i + 1) _ (by omega),
      show 7 - i = k by omega, List.range_succ]
    simp

theorem crcByte_eq (r : Half) (b : Byte) :
    crcByte r b = ([7, 6, 5, 4, 3, 2, 1, 0].map b.getLsbD).foldl crcBit r := by
  have bits := crcShift_bits b 8 0 r rfl
  rw [BitVec.shiftLeft_zero] at bits
  exact bits

theorem crc16_eq_serialCrc (bytes : List Byte) : crc16 bytes = serialCrc bytes := by
  unfold crc16 serialCrc
  generalize (0xFFFF : Half) = r
  induction bytes generalizing r with
  | nil => rfl
  | cons b bs ih =>
    rw [List.foldl_cons, List.flatMap_cons, List.foldl_append, ih, crcByte_eq]
    rfl

/-- The check string of R182, byte by byte. -/
theorem crc16_check : crc16 [0x31, 0x32, 0x33, 0x34, 0x35, 0x36, 0x37, 0x38, 0x39] = 0x29B1 := by
  simp only [crc16, List.foldl_cons, List.foldl_nil]
  rw [show crcByte 0xFFFF 0x31 = 0xC782 from by decide,
    show crcByte 0xC782 0x32 = 0x3DBA from by decide,
    show crcByte 0x3DBA 0x33 = 0x5BCE from by decide,
    show crcByte 0x5BCE 0x34 = 0x5349 from by decide,
    show crcByte 0x5349 0x35 = 0x4560 from by decide,
    show crcByte 0x4560 0x36 = 0x2EF4 from by decide,
    show crcByte 0x2EF4 0x37 = 0x7718 from by decide,
    show crcByte 0x7718 0x38 = 0xA12B from by decide,
    show crcByte 0xA12B 0x39 = 0x29B1 from by decide]

/-! ### Refusals change nothing (R162) -/

/-- A reply that, where it refuses, leaves the state alone and has nothing to follow. -/
def Reply.clean (s : State) (r : Reply) : Prop := r.status.isRefusal = true → r.state = s ∧ r.after = .nothing

theorem clean_reply (s : State) (status : Status) (body : List Byte) : (reply status s body).clean s :=
  fun _ => ⟨rfl, rfl⟩

theorem clean_of_accepted {s : State} {r : Reply} (accepted : r.status.isRefusal = false) : r.clean s :=
  fun refused => by simp [accepted] at refused

/-- Every branch of every rule either accepts or leaves the state as it was. -/
theorem rule_clean (c : Instr) (s : State) : (ruleOf c s).clean s := by
  cases c
  all_goals dsimp only [ruleOf]
  any_goals exact clean_reply s _ _
  any_goals unfold actPortStatus
  any_goals unfold actCountersClear
  any_goals unfold actNoticeEnable
  any_goals unfold actScanBid
  any_goals unfold actClockSet
  any_goals unfold actSettingsGet
  any_goals unfold actSettingsPut
  any_goals unfold actRestart
  any_goals unfold actCompartmentStatus
  any_goals unfold actProbeStatus
  any_goals unfold actProbeClear
  any_goals unfold actWatchRearm
  any_goals unfold actDoorStatus
  any_goals unfold actDoorRearm
  any_goals unfold actDefrostStatus
  any_goals unfold actDefrostAsk
  any_goals unfold actDefrostEnd
  any_goals unfold actLotLoad
  any_goals unfold actLotMove
  any_goals unfold actLotWriteOff
  any_goals unfold actLotRetire
  any_goals unfold actLotStatus
  any_goals unfold actLotList
  any_goals unfold actReportLot
  any_goals unfold actRouteBegin
  any_goals unfold actStopLoad
  any_goals unfold actDispatch
  any_goals unfold actVanReturn
  any_goals unfold actStopOpen
  any_goals unfold actStopClose
  any_goals unfold actStopStatus
  any_goals unfold actHandoffOffer
  any_goals unfold actHandoffAccept
  any_goals unfold actHandoffCopied
  any_goals unfold actHandoffWithdraw
  any_goals unfold actHandoffStatus
  any_goals unfold actClaimLodge
  any_goals unfold actClaimWithdraw
  any_goals unfold actClaimFetch
  any_goals unfold actClaimClear
  any_goals dsimp only
  all_goals repeat' split
  all_goals first
    | exact clean_of_accepted rfl
    | exact clean_reply s _ _

theorem isRefusal_iff (status : Status) :
    status.isRefusal = true ↔ status ≠ .ok ∧ status ≠ .pending ∧ status ≠ .deferred := by
  cases status <;> decide

/-- The response to a clean refusal changes its port's response and refusal record alone. -/
theorem respond_refusal {s t : State} {p : Port} {kind answer tag : Byte} {r : Reply} {x : Response}
    (clean : r.clean s) (refusal : r.status.isRefusal = true) (after : State.respond p kind answer tag r = t)
    (answered : (t.ports.get p).request = some x) :
    sameButRefusal p s t ∧ x.kind = answer ∧ x.tag = tag ∧ x.after = .nothing ∧
      (t.ports.get p).refusal = some ⟨kind, x.status, s.seconds⟩ := by
  obtain ⟨state, nothing⟩ := clean refusal
  subst after
  obtain rfl : (⟨answer, r.status, tag, r.body, r.after⟩ : Response) = x := by
    rw [respond_request] at answered
    exact Option.some.inj answered
  refine ⟨⟨?_, fun q hq => ?_, ?_⟩, rfl, rfl, nothing, ?_⟩
  · rw [respond_eq, state]
    rfl
  · rw [respond_other p q kind answer tag r hq, state]
  · rw [respond_eq, state]
    simp [PortState.answering, PortState.refused, refusal]
  · rw [respond_eq, state]
    simp [PortState.answering, PortState.refused, refusal]

/-! ### The attention code (R177) -/

theorem find_getD_cons (f : Nat → Bool) (n : Nat) (ns : List Nat) :
    ((n :: ns).find? f).getD 0 = if f n = true then n else (ns.find? f).getD 0 := by
  rw [List.find?_cons]
  cases f n <;> rfl

section Attention

variable (s : State) (p : Port)

theorem attention_excursion : attentionHolds s p 12 = true ↔
    ∃ c : Comp, (s.watches.get c).state = .excursion ∨ (s.watches.get c).state = .recovering := by
  simp only [attentionHolds, any_toList]
  exact exists_congr fun c => by simp [Watch.out]

theorem attention_overrun : attentionHolds s p 11 = true ↔ ∃ c : Comp, (s.defrosts.get c).state = .overrun := by
  simp only [attentionHolds, any_toList, beq_iff_eq]

theorem attention_held : attentionHolds s p 10 = true ↔ ∃ d : Comp, (s.doors.get d).state = .held := by
  simp only [attentionHolds, any_toList, beq_iff_eq]

theorem attention_doorOver : attentionHolds s p 9 = true ↔
    (s.route.openStop.bind fun n => s.stops.get n).any Stop.doorOver = true := by
  unfold attentionHolds State.currentStop
  cases s.route.openStop with
  | none => simp
  | some n => cases h : s.stops.get n <;> simp [h]

theorem attention_latched : attentionHolds s p 8 = true ↔ ∃ d : Comp, (s.doors.get d).latch ≠ none := by
  simp only [attentionHolds, any_toList, Option.isSome_iff_ne_none]

theorem attention_late : attentionHolds s p 7 = true ↔
    (s.route.openStop.bind fun n => s.stops.get n).any Stop.late = true := by
  unfold attentionHolds State.currentStop
  cases s.route.openStop with
  | none => simp
  | some n => cases h : s.stops.get n <;> simp [h]

theorem attention_faulted : attentionHolds s p 6 = true ↔ ∃ i : Probe, (s.probes.get i).latch ≠ none := by
  simp only [attentionHolds, any_toList, Option.isSome_iff_ne_none]

theorem attention_blind : attentionHolds s p 5 = true ↔
    ∃ c : Comp, (s.comps.get c).latest.any (fun r => r.source == .blind) = true := by
  simp only [attentionHolds, any_toList]
  refine exists_congr fun c => ?_
  cases (s.comps.get c).latest <;> simp

theorem attention_waiting : attentionHolds s p 4 = true ↔ ∃ j : HIndex,
    (s.handoffs.get j).any (fun h => h.state == .offered || h.state == .proofReady) = true := by
  simp only [attentionHolds, any_toList]
  refine exists_congr fun j => ?_
  cases s.handoffs.get j <;> simp [Handoff.waiting]

theorem attention_decided : attentionHolds s p 3 = true ↔ ∃ c ∈ s.claims, c.state = .decided ∧ c.fetched = false := by
  simp [attentionHolds]

end Attention

/-! ### The rights of the roles (R164) -/

theorem hasRight_eq (kind : Byte) (role : Role) :
    let all := [0x02, 0x03, 0x04, 0x05, 0x07, 0x10, 0x11, 0x14, 0x16, 0x24, 0x25, 0x2E, 0x34]
    let codes : List Nat := match role with
      | .noRole => []
      | .cab => all ++ [0x15, 0x21, 0x22, 0x2C, 0x2D, 0x30, 0x31, 0x32, 0x33, 0x38, 0x3A]
      | .dock => all ++ [0x06, 0x08, 0x09, 0x12, 0x13, 0x20, 0x21, 0x22, 0x23, 0x26, 0x28, 0x29, 0x2A, 0x2B, 0x38, 0x39,
          0x3A, 0x3B, 0x3C]
      | .cooling => all ++ [0x12, 0x13, 0x15, 0x17, 0x18]
    hasRight kind role = decide (kind.toNat ∈ 0x01 :: codes) := by
  unfold hasRight roles
  generalize kind.toNat = n
  intro all codes
  split
  case h_43 => cases role <;> simp [all, codes] <;> and_intros <;> assumption
  all_goals cases role <;> rfl

theorem satAdd_succ (w n : Nat) : satAdd w n 1 = min (n + 1) (2 ^ w - 1) := rfl

end Sys2Proof.Machine

namespace Sys2Proof.Proofs

open Sys2Proof.Machine

/-- Settles O1: the step is defined on the front of the queue. -/
theorem stepRunsFrontCommand : Obligations.StepRunsFrontCommand := by
  intro c rest s pending
  simp only [step, pending]

/-- Settles O2: a request is taken or lost, a byte kept or handed over, and an event is total. -/
theorem everyCommandAnswers : Obligations.EveryCommandAnswers := exec_answers

/-- Settles O3: the response by `respond_eq`, the attention code condition by condition, the CRC bit by bit. -/
theorem answerFrame : Obligations.AnswerFrame := by
  refine ⟨crc16_eq_serialCrc, crc16_check, fun r code => rfl, ?_, ?_⟩
  · intro p kind tag status body s t r refused
    have made := respond_eq p kind (kind + 0x80) tag { status := status, body := body, after := .nothing, state := s }
    refine ⟨?_, fun q hq => respond_other p q kind _ tag _ hq, ?_⟩
    · rw [show t = _ from made]
      rfl
    · rw [show t = _ from made]
      have refusal : refused ↔ status.isRefusal = true := (isRefusal_iff status).symm
      simp only [State.modPort_ports, get_modAt, if_true, PortState.answering, PortState.refused]
      by_cases h : status.isRefusal = true
      · cases tx : (s.ports.get p).tx <;> simp [refusal, h, r, satAdd_succ]
      · cases tx : (s.ports.get p).tx <;> simp [refusal, h, tx, r]
  · intro p s openStop
    simp only [attention, find_getD_cons, List.find?_nil, Option.getD_none, attention_excursion, attention_overrun,
      attention_held, attention_doorOver, attention_latched, attention_late, attention_faulted, attention_blind,
      attention_waiting, attention_decided]
    rfl

/-- Settles O4: the two judgements before the rule, and the rights by the table of R164. -/
theorem requestsAreJudged : Obligations.RequestsAreJudged := by
  refine ⟨fun c p kind tag body s request on heard => ?_, hasRight_eq⟩
  have hears : s.hears p = true := by simp [State.hears, on, heard]
  rw [exec_request request]
  split
  · next busy =>
    rw [takeRequest_answering kind tag _ hears (Option.isSome_iff_ne_none.2 busy)]
    rfl
  next idle =>
  have idle : (s.ports.get p).request = none := not_not.1 idle
  have same : answerKind kind = kind + 0x80 := (request_kind request).2
  split
  · next starting =>
    cases phase : s.phase with
    | off => exact absurd phase on
    | ready => exact absurd phase starting
    | starting cause =>
      rw [takeRequest_starting kind tag _ phase heard idle, same]
      rfl
  next ready =>
  split
  · next noRight =>
    rw [takeRequest_noRight tag _ (not_not.1 ready) heard idle noRight, same]
    rfl
  · trivial

/-- Settles O5: a refusal is made before the state is touched. -/
theorem refusalsChangeNothing : Obligations.RefusalsChangeNothing := by
  intro c p kind tag body s t r request idle run answered notOk notPending notDeferred
  rw [exec_request request] at run
  obtain rfl := Host.Outcome.next.inj run
  have same : answerKind kind = kind + 0x80 := (request_kind request).2
  have refusal : r.status.isRefusal = true := (isRefusal_iff _).2 ⟨notOk, notPending, notDeferred⟩
  have settled (reply : Reply) (clean : reply.clean s)
      (taken : takeRequest p kind tag (ruleOf c) s = State.respond p kind (answerKind kind) tag reply) :
      sameButRefusal p s (takeRequest p kind tag (ruleOf c) s) ∧ r.kind = kind + 0x80 ∧ r.tag = tag ∧
        r.after = .nothing ∧
        ((takeRequest p kind tag (ruleOf c) s).ports.get p).refusal = some ⟨kind, r.status, s.seconds⟩ := by
    rw [taken] at answered ⊢
    rw [same] at answered ⊢
    have status : reply.status = r.status := by
      rw [respond_request] at answered
      exact congrArg Response.status (Option.some.inj answered)
    exact respond_refusal clean (status ▸ refusal) rfl answered
  rcases takeRequest_cases p kind tag (ruleOf c) s with h | h | ⟨-, h⟩ | h | h
  · rw [h, idle] at answered
    cases answered
  · rw [h] at answered
    simp [idle] at answered
  · exact settled _ (rule_clean c s) h
  · exact settled _ (clean_reply s _ _) h
  · exact settled _ (clean_reply s _ _) h

end Sys2Proof.Proofs
end

section
/-!
PROOF. Frames on the line (sections 10.2 and 12.1): the receiver byte by byte, the delivery of a whole frame, and the
reading of KIND and BODY back into a request.
-/
namespace Sys2Proof.Machine

/-! ### One byte (R159) -/

theorem modPort_eq_self {s : State} {p : Port} {f : PortState → PortState} (h : f (s.ports.get p) = s.ports.get p) :
    s.modPort p f = s := by
  unfold State.modPort
  rw [modAt_eq_self _ _ _ h]

/-- A port's receiver in a given state, all else alike. -/
def State.withRx (s : State) (p : Port) (rx : Receiver) : State := s.modPort p fun ps => { ps with rx := rx }

section Byte

variable {s : State} {p : Port}

theorem withRx_self {rx : Receiver} (h : (s.ports.get p).rx = rx) : s.withRx p rx = s := modPort_eq_self (by rw [← h])

theorem exec_interByteTimeout (p : Port) (s : State) :
    exec (.interByteTimeout p) s = .next (interByteTimeout p s) := rfl

theorem interByteTimeout_eq_self (h : (s.ports.get p).rx.timedOut = false) : interByteTimeout p s = s := by
  simp [interByteTimeout, h]

theorem interByteTimeout_of_silence (on : s.phase ≠ .off) (h : (s.ports.get p).rx.timedOut = true) :
    interByteTimeout p s = s.modPort p PortState.abandonFrame := by
  simp [interByteTimeout, on, h]

/-- Before a time-out a byte does what the receiver's state makes of it. -/
theorem exec_byteReceived (on : s.phase ≠ .off) (h : (s.ports.get p).rx.timedOut = false) (b : Byte)
    (framingError : Bool) : exec (.byteReceived p b framingError) s = s.byteEffect p b framingError := by
  show byteReceived p b framingError s = _
  rw [byteReceived, if_neg on, interByteTimeout_eq_self h]

theorem byteEffect_stay {rx : Receiver} {b : Byte} {framingError : Bool}
    (h : (s.ports.get p).rx.takeByte b framingError = .stay rx) :
    s.byteEffect p b framingError = .next (s.withRx p rx) := by
  rw [State.byteEffect, h]
  rfl

theorem byteEffect_errored {b : Byte} {framingError : Bool}
    (h : (s.ports.get p).rx.takeByte b framingError = .errored) :
    s.byteEffect p b framingError = .next (s.modPort p PortState.abandonFrame) := by
  rw [State.byteEffect, h]

theorem byteEffect_good {b kind tag : Byte} {body : List Byte} {framingError : Bool}
    (h : (s.ports.get p).rx.takeByte b framingError = .good kind tag body) :
    s.byteEffect p b framingError = handFrame p kind tag body
      (s.modPort p fun ps => { ps with rx := .hunting, good := satAdd 16 ps.good 1 }) := by
  rw [State.byteEffect, h]

theorem withRx_rx (rx : Receiver) : ((s.withRx p rx).ports.get p).rx = rx := by simp [State.withRx]

theorem withRx_withRx (rx rx' : Receiver) : (s.withRx p rx).withRx p rx' = s.withRx p rx' := by
  simp [State.withRx, modPort_modPort, Function.comp_def]

/-- A byte that the receiver only keeps. -/
theorem exec_byte_kept (on : s.phase ≠ .off) {bytes : List Byte} {b : Byte} {rx : Receiver}
    (h : frameByte bytes b = .stay rx) :
    exec (.byteReceived p b false) (s.withRx p (.inFrame bytes 0)) = .next (s.withRx p rx) := by
  rw [exec_byteReceived (s := s.withRx p _) on (by rw [withRx_rx]; rfl), byteEffect_stay (rx := rx), withRx_withRx]
  rw [withRx_rx]
  exact h

end Byte

/-! ### A whole frame (R159, R182) -/

section Frame

variable {s : State} {p : Port}

/-- Bytes that do not yet complete the frame that LEN announces. -/
theorem receiveAll_kept (on : s.phase ≠ .off) (len : Byte) (before more after : List Byte)
    (short : before.length + more.length < len.toNat + 2) :
    State.receiveAll p (more ++ after) (s.withRx p (.inFrame (len :: before) 0)) =
      State.receiveAll p after (s.withRx p (.inFrame (len :: (before ++ more)) 0)) := by
  induction more generalizing before with
  | nil => rw [List.append_nil, List.nil_append]
  | cons b more ih =>
    have stays : frameByte (len :: before) b = .stay (.inFrame (len :: (before ++ [b])) 0) := by
      simp only [List.length_cons] at short
      simp only [frameByte, List.cons_append]
      rw [if_neg]
      simp
      omega
    rw [List.cons_append, State.receiveAll, exec_byte_kept on stays]
    simp only [List.length_cons] at short
    dsimp only
    rw [ih (before ++ [b]) (by simp; omega)]
    simp

theorem checkFrame_append (covered c : List Byte) (two : c.length = 2) :
    checkFrame (covered ++ c) = match covered with
      | _ :: kind :: tag :: body => if c = halfBytes (crc16 covered) then .good kind tag body else .errored
      | _ => .errored := by
  have len : (covered ++ c).length - 2 = covered.length := by simp [two]
  unfold checkFrame
  rw [len, List.take_left, List.drop_left] <;> rfl

/-- The byte that completes the frame. -/
theorem frameByte_last (len : Byte) (content : List Byte) (c1 c0 : Byte) (h : content.length = len.toNat) :
    frameByte (len :: (content ++ [c1])) c0 = checkFrame ((len :: content) ++ [c1, c0]) := by
  unfold frameByte
  simp [h]

theorem receiveAll_singleton (b : Byte) (s : State) :
    State.receiveAll p [b] s = exec (.byteReceived p b false) s := by
  rw [State.receiveAll]
  split <;> simp_all [State.receiveAll]

/-- The bytes of a frame but the last, one after another from HUNTING. -/
theorem receiveAll_content (on : s.phase ≠ .off) (hunting : (s.ports.get p).rx = .hunting) (content : List Byte)
    (low : 2 ≤ content.length) (high : content.length ≤ 242) (c1 : Byte) (after : List Byte) :
    State.receiveAll p (0xA5 :: u8 content.length ++ content ++ c1 :: after) s =
      State.receiveAll p after (s.withRx p (.inFrame (u8 content.length ++ content ++ [c1]) 0)) := by
  let len : Byte := BitVec.ofNat 8 content.length
  have toNat : len.toNat = content.length := toNat_u8 (by omega)
  have start : exec (.byteReceived p 0xA5 false) s = .next (s.withRx p (.inFrame [] 0)) := by
    rw [exec_byteReceived on (by rw [hunting]; rfl), byteEffect_stay]
    rw [hunting]
    rfl
  have announce : frameByte [] len = .stay (.inFrame [len] 0) := if_pos (by omega)
  have kept := receiveAll_kept (p := p) on len [] (content ++ [c1]) after (by simp; omega)
  show State.receiveAll p (0xA5 :: len :: (content ++ c1 :: after)) s = _
  rw [State.receiveAll, start]
  dsimp only
  rw [State.receiveAll, exec_byte_kept on announce]
  dsimp only
  rw [List.nil_append, List.append_assoc, List.singleton_append] at kept
  exact kept

/-- The bytes of a frame, one after another from HUNTING, hand the frame over. -/
theorem receiveAll_frame (on : s.phase ≠ .off) (hunting : (s.ports.get p).rx = .hunting) (kind tag : Byte)
    (body : List Byte) (room : body.length ≤ 240) :
    State.receiveAll p (requestFrame kind tag body) s =
      handFrame p kind tag body (s.modPort p fun ps => { ps with good := min (ps.good + 1) 65535 }) := by
  let content := kind :: tag :: body
  have size : content.length = body.length + 2 := rfl
  let check := crc16 (u8 content.length ++ content)
  have toNat : (BitVec.ofNat 8 content.length).toNat = content.length := toNat_u8 (by omega)
  show State.receiveAll p (0xA5 :: u8 content.length ++ content ++
    [check.extractLsb' 8 8, check.extractLsb' 0 8]) s = _
  rw [receiveAll_content on hunting content (by omega) (by omega), receiveAll_singleton,
    exec_byteReceived (s := s.withRx p _) on (by rw [withRx_rx]; rfl),
    byteEffect_good (kind := kind) (tag := tag) (body := body)]
  · congr 1
    rw [State.withRx, modPort_modPort]
    refine modPort_congr s p _ _ ?_
    simp [hunting, satAdd_succ]
  · rw [withRx_rx]
    show frameByte (BitVec.ofNat 8 content.length :: (content ++ [_])) _ = _
    rw [frameByte_last _ _ _ _ toNat.symm, checkFrame_append _ _ rfl]
    exact if_pos rfl

end Frame

/-! ### Reading KIND and BODY back (R183) -/

/-- A STOP_LOAD body read back. -/
theorem bodyStopLoad_bytes (p : Port) (tag stop : Byte) (x m : Word) (budget limit : Half)
    (planned : List (Word × Half)) (few : planned.length ≤ 37) :
    bodyStopLoad p tag (stop :: wordBytes x ++ wordBytes m ++ halfBytes budget ++ halfBytes limit
      ++ [BitVec.ofNat 8 planned.length] ++ planned.flatMap plannedBytes) =
      .request (.stopLoad p tag stop x m budget limit planned) := by
  simp only [wordBytes, halfBytes, List.cons_append, List.nil_append, bodyStopLoad, readPlanned_bytes]
  rw [if_pos (toNat_u8 (n := planned.length) (by omega)).symm, readWord_bytes, readWord_bytes, readHalf_bytes,
    readHalf_bytes]

theorem decode_encode {c : Instr} {p : Port} {kind tag : Byte} {body : List Byte} (wellFormed : c.wellFormed = true)
    (request : encodeRequest c = some (p, kind, tag, body)) : decodeRequest p kind tag body = .request c := by
  cases c <;> cases request
  case stopLoad stop x m budget limit planned =>
    exact bodyStopLoad_bytes p tag stop x m budget limit planned (by simpa [Instr.wellFormed] using wellFormed)
  all_goals
    simp [decodeRequest, bodyEmpty, bodyByte, bodyHalf, bodyWord, bodyWordByte, bodyWordHalf, wordBytes, halfBytes,
      readWord_bytes, readHalf_bytes]

theorem encode_length {c : Instr} {p : Port} {kind tag : Byte} {body : List Byte} (wellFormed : c.wellFormed = true)
    (request : encodeRequest c = some (p, kind, tag, body)) : body.length ≤ 240 := by
  cases c <;> cases request
  case stopLoad =>
    simp only [Instr.wellFormed, decide_eq_true_eq] at wellFormed
    simp [plannedBytes_length, -List.length_flatMap]
    omega
  case settingsPut =>
    simp only [Instr.wellFormed, decide_eq_true_eq] at wellFormed
    simp
    omega
  all_goals simp

/-- A request that is handed over does what its command does. -/
theorem handFrame_request {c : Instr} {p : Port} {kind tag : Byte} {body : List Byte} (wellFormed : c.wellFormed = true)
    (request : encodeRequest c = some (p, kind, tag, body)) (s : State) : handFrame p kind tag body s = exec c s := by
  rw [handFrame, decode_encode wellFormed request]
  exact serve_request request s

end Sys2Proof.Machine

namespace Sys2Proof.Proofs

open Sys2Proof.Machine

/-- Settles O6: each field is read back from its bytes. -/
theorem decodeOfEncode : Obligations.DecodeOfEncode := fun _ _ _ _ _ wellFormed request =>
  ⟨decode_encode wellFormed request, encode_length wellFormed request, (request_kind request).1⟩

/-- Settles O7: the receiver keeps each byte, finds the CHECK good, and hands over what decodes to the request. -/
theorem frameDelivery : Obligations.FrameDelivery := by
  intro c p kind tag body s wellFormed request on hunting
  rw [receiveAll_frame on hunting kind tag body (encode_length wellFormed request)]
  exact handFrame_request wellFormed request _

/-- Settles O8: the receiver's states one by one, and a CHECK that disagrees. -/
theorem receiverBytes : Obligations.ReceiverBytes := by
  refine ⟨?_, ?_⟩
  · intro p b s bytes silence on errored
    refine ⟨fun broken => ?_, fun hunting => ?_, fun inFrame => ?_⟩
    · have quiet : (s.ports.get p).rx.timedOut = false := by rw [broken]; rfl
      refine ⟨by rw [exec_interByteTimeout, interByteTimeout_eq_self quiet], fun framingError => ?_⟩
      rw [exec_byteReceived on quiet, byteEffect_stay (rx := .broken) (by rw [broken]; rfl), withRx_self broken]
    · have quiet : (s.ports.get p).rx.timedOut = false := by rw [hunting]; rfl
      refine ⟨by rw [exec_interByteTimeout, interByteTimeout_eq_self quiet], ?_, ?_⟩
      · rw [exec_byteReceived on quiet,
          byteEffect_stay (rx := .hunting) (by rw [hunting]; simp [Receiver.takeByte, huntByte]),
          withRx_self hunting]
      · rw [exec_byteReceived on quiet]
        split
        · next start => exact byteEffect_stay (by rw [hunting]; simp [Receiver.takeByte, huntByte, start])
        · next other =>
          rw [byteEffect_stay (rx := .hunting) (by rw [hunting]; exact if_neg fun h => other h.1),
            withRx_self hunting]
    · split
      · next short =>
        have quiet : (s.ports.get p).rx.timedOut = false := by rw [inFrame]; simpa [Receiver.timedOut] using short
        refine ⟨by rw [exec_interByteTimeout, interByteTimeout_eq_self quiet], ?_, fun empty => ?_,
          fun len rest split incomplete => ?_⟩
        · rw [exec_byteReceived on quiet, byteEffect_errored (by rw [inFrame]; rfl)]
          rfl
        · rw [exec_byteReceived on quiet]
          split
          · next range =>
            exact byteEffect_stay (by rw [inFrame, empty]; exact if_pos range)
          · next range =>
            rw [byteEffect_errored (by rw [inFrame, empty]; exact if_neg range)]
            rfl
        · rw [exec_byteReceived on quiet]
          refine byteEffect_stay ?_
          rw [inFrame, split]
          exact if_neg (by simp; omega)
      · next long =>
        have silent : (s.ports.get p).rx.timedOut = true := by rw [inFrame]; simpa [Receiver.timedOut] using long
        have abandoned : interByteTimeout p s = s.modPort p errored := interByteTimeout_of_silence on silent
        have fresh : ((s.modPort p errored).ports.get p).rx = .hunting := by simp [errored]
        have quiet : ((s.modPort p errored).ports.get p).rx.timedOut = false := by rw [fresh]; rfl
        have taken (framingError : Bool) : exec (.byteReceived p b framingError) s =
            exec (.byteReceived p b framingError) (s.modPort p errored) := by
          rw [exec_byteReceived (s := s.modPort p errored) on quiet, ← abandoned]
          show byteReceived p b framingError s = _
          rw [byteReceived, if_neg on]
        refine ⟨by rw [exec_interByteTimeout, abandoned], ?_, taken false⟩
        rw [taken true, exec_byteReceived (s := s.modPort p errored) on quiet,
          byteEffect_stay (rx := .hunting) (by rw [fresh]; simp [Receiver.takeByte, huntByte]), withRx_self fresh]
  · intro p s content c1 c0 silence on low high short inFrame disagree
    have quiet : (s.ports.get p).rx.timedOut = false := by rw [inFrame]; simpa [Receiver.timedOut] using short
    have toNat : (BitVec.ofNat 8 content.length).toNat = content.length := toNat_u8 (by omega)
    rw [exec_byteReceived on quiet, byteEffect_errored]
    · rfl
    · rw [inFrame]
      show frameByte (BitVec.ofNat 8 content.length :: (content ++ [c1])) c0 = _
      rw [frameByte_last _ _ _ _ toNat.symm, checkFrame_append _ _ rfl]
      match content, low with
      | kind :: tag :: body, _ => exact if_neg disagree

end Sys2Proof.Proofs
end

section
/-!
PROOF. Frames that are no request (R161, R162): an undefined KIND, a BODY of the wrong length, a frame that comes while
the port is ANSWERING.
-/
namespace Sys2Proof.Machine

/-! ### Undefined KINDs -/

/-- The lengths of R183, for the KINDs whose BODY has one length. -/
def bodyLengths : List (Nat × Nat) :=
  [(0x01, 0), (0x02, 0), (0x03, 1), (0x04, 2), (0x05, 0), (0x06, 4), (0x07, 2), (0x09, 0), (0x10, 1), (0x11, 1),
   (0x12, 1), (0x13, 1), (0x14, 1), (0x15, 1), (0x16, 1), (0x17, 1), (0x18, 1), (0x20, 8), (0x21, 5), (0x22, 6),
   (0x23, 5), (0x24, 5), (0x25, 1), (0x26, 5), (0x28, 2), (0x2A, 0), (0x2B, 0), (0x2C, 1), (0x2D, 0), (0x2E, 1),
   (0x30, 6), (0x31, 8), (0x32, 3), (0x33, 1), (0x34, 1), (0x38, 7), (0x39, 2), (0x3A, 2), (0x3B, 2), (0x3C, 0)]

theorem definedKind_eq (kind : Byte) :
    definedKind kind = decide (kind.toNat ∈ 0x08 :: 0x29 :: bodyLengths.map Prod.fst) := by
  have there : ∀ n ∈ definedKinds, n ∈ 0x08 :: 0x29 :: bodyLengths.map Prod.fst := by decide
  have back : ∀ n ∈ 0x08 :: 0x29 :: bodyLengths.map Prod.fst, n ∈ definedKinds := by decide
  rw [Bool.eq_iff_iff, definedKind, List.contains_iff_mem, decide_eq_true_eq]
  exact ⟨there _, back _⟩

theorem decode_undefined {kind : Byte} (undefined : definedKind kind = false) (p : Port) (tag : Byte)
    (body : List Byte) : decodeRequest p kind tag body = .undefined := by
  have other : kind.toNat ∉ definedKinds := by simpa [definedKind] using undefined
  unfold decodeRequest
  revert other
  generalize kind.toNat = n
  intro other
  split
  case h_43 => rfl
  all_goals exact absurd (by decide) other

/-! ### A BODY of the wrong length -/

section Bodies

variable {body : List Byte}

theorem bodyEmpty_bad (c : Instr) (h : body.length ≠ 0) : bodyEmpty c body = .badLength := by
  match body, h with
  | _ :: _, _ => rfl

theorem bodyByte_bad (f : Byte → Instr) (h : body.length ≠ 1) : bodyByte f body = .badLength := by
  unfold bodyByte
  split
  · exact absurd rfl h
  · rfl

theorem bodyHalf_bad (f : Half → Instr) (h : body.length ≠ 2) : bodyHalf f body = .badLength := by
  unfold bodyHalf
  split
  · exact absurd rfl h
  · rfl

theorem bodyWord_bad (f : Word → Instr) (h : body.length ≠ 4) : bodyWord f body = .badLength := by
  unfold bodyWord
  split
  · exact absurd rfl h
  · rfl

theorem bodyWordByte_bad (f : Word → Byte → Instr) (h : body.length ≠ 5) : bodyWordByte f body = .badLength := by
  unfold bodyWordByte
  split
  · exact absurd rfl h
  · rfl

theorem bodyWordHalf_bad (f : Word → Half → Instr) (h : body.length ≠ 6) : bodyWordHalf f body = .badLength := by
  unfold bodyWordHalf
  split
  · exact absurd rfl h
  · rfl

theorem readPlanned_length {bytes : List Byte} {planned : List (Word × Half)} (h : readPlanned bytes = some planned) :
    bytes.length = 6 * planned.length := by
  induction bytes using readPlanned.induct generalizing planned with
  | case1 =>
    cases h
    rfl
  | case2 a b c d e g rest ih =>
    obtain ⟨tail, found, rfl⟩ := Option.map_eq_some_iff.1 h
    simp [ih found]
    omega
  | case3 bytes h1 h2 =>
    simp [readPlanned] at h

theorem bodyStopLoad_bad (p : Port) (tag : Byte)
    (h : body.length < 14 ∨ body.length ≠ 14 + 6 * (body.getD 13 0).toNat) :
    bodyStopLoad p tag body = .badLength := by
  unfold bodyStopLoad
  split
  · next n rest =>
    split
    · next planned found =>
      rw [if_neg]
      intro e
      have := readPlanned_length found
      simp at h
      omega
    · rfl
  · rfl

end Bodies

theorem decode_badLength {kind : Byte} {n : Nat} (known : (kind.toNat, n) ∈ bodyLengths) (p : Port) (tag : Byte)
    {body : List Byte} (wrong : body.length ≠ n) : decodeRequest p kind tag body = .badLength := by
  simp only [bodyLengths, List.mem_cons, Prod.mk.injEq, List.not_mem_nil, or_false] at known
  rcases known with h | h | h | h | h | h | h | h | h | h | h | h | h | h | h | h | h | h | h | h | h | h | h | h | h | h |
    h | h | h | h | h | h | h | h | h | h | h | h | h | h
  all_goals
    obtain ⟨kind, rfl⟩ := h
    simp only [decodeRequest, kind]
    first
      | exact bodyEmpty_bad _ wrong
      | exact bodyByte_bad _ wrong
      | exact bodyHalf_bad _ wrong
      | exact bodyWord_bad _ wrong
      | exact bodyWordByte_bad _ wrong
      | exact bodyWordHalf_bad _ wrong
      | (split
         · exact absurd rfl wrong
         · rfl)

/-- A SETTINGS_PUT whose BODY is too short has no group and index. -/
theorem decode_settingsPut_short {kind : Byte} (known : kind.toNat = 0x08) (p : Port) (tag : Byte) {body : List Byte}
    (short : body.length < 2) : decodeRequest p kind tag body = .badLength := by
  simp only [decodeRequest, known]
  split
  · simp at short
  · rfl

theorem entrySize_eq (group : Byte) : entrySize group = [6, 2, 6, 5, 19, 19][group.toNat]? := by
  unfold entrySize
  generalize group.toNat = n
  match n with
  | 0 | 1 | 2 | 3 | 4 | 5 => rfl
  | n + 6 => rfl

/-! ### What becomes of such a frame -/

section Frames

variable {s : State} {p : Port} {kind tag : Byte} {body : List Byte}

/-- A BODY of the wrong length is answered BAD_REQUEST (R162, step 4). -/
theorem handFrame_badLength (takes : s.takes p kind) (known : definedKind kind = true)
    (bad : decodeRequest p kind tag body = .badLength) :
    handFrame p kind tag body s = .next (answered p kind tag .badRequest [] s) := by
  have same : answerKind kind = kind + 0x80 := by
    have small : ∀ n ∈ definedKinds, n < 0x80 := by decide
    exact if_pos (small _ (by simpa [definedKind] using known))
  rw [handFrame, bad]
  show Host.Outcome.next (takeRequest p kind tag (reply .badRequest) s) = _
  rw [takeRequest_taken tag _ takes, same]
  rfl

/-- So is a SETTINGS_PUT whose entry has not the length of its group. -/
theorem handFrame_badEntry {group index : Byte} {entry : List Byte} (takes : s.takes p kind)
    (known : kind.toNat = 0x08) (bad : badEntryLength group entry = true) :
    handFrame p kind tag (group :: index :: entry) s = .next (answered p kind tag .badRequest [] s) := by
  obtain rfl : kind = 0x08 := BitVec.eq_of_toNat_eq known
  have request : encodeRequest (.settingsPut p tag group index entry) = some (p, 0x08, tag, group :: index :: entry) :=
    rfl
  show exec (.settingsPut p tag group index entry) s = _
  refine exec_answered request takes ?_
  show actSettingsPut p group index entry s = _
  rw [actSettingsPut, if_pos bad]

theorem hears_of (on : s.phase ≠ .off) (heard : (s.ports.get p).rx ≠ .broken) : s.hears p = true := by
  simp [State.hears, on, heard]

/-- Counting a good frame changes nothing that the taking of a request asks for. -/
theorem takes_counted (takes : s.takes p kind) :
    (s.modPort p fun ps => { ps with good := min (ps.good + 1) 65535 }).takes p kind := by
  simpa [State.takes] using takes

theorem exec_undefinedRequest (p : Port) (kind tag : Byte) (s : State) :
    exec (.undefinedRequest p kind tag) s = .next (undefinedRequest p kind tag s) := rfl

theorem exec_frameDiscarded (p : Port) (s : State) : exec (.frameDiscarded p) s = .next (frameDiscarded p s) := rfl

theorem undefinedRequest_answering (on : s.phase ≠ .off) (heard : (s.ports.get p).rx ≠ .broken)
    (busy : (s.ports.get p).request ≠ none) (undefined : definedKind kind = false) :
    undefinedRequest p kind tag s = s.modPort p fun ps => { ps with lost := min (ps.lost + 1) 65535 } := by
  rw [undefinedRequest, if_neg (by simp [hears_of on heard, undefined]), if_pos (Option.isSome_iff_ne_none.2 busy)]
  rfl

theorem undefinedRequest_ready (ready : s.phase = .ready) (heard : (s.ports.get p).rx ≠ .broken)
    (idle : (s.ports.get p).request = none) (undefined : definedKind kind = false) :
    undefinedRequest p kind tag s = State.respond p kind 0x80 tag (reply .badRequest s) := by
  rw [undefinedRequest, if_neg (by simp [hears_of (s := s) (by simp [ready]) heard, undefined]), idle, ready]
  rfl

theorem undefinedRequest_starting (starting : s.phase ≠ .ready) (on : s.phase ≠ .off)
    (heard : (s.ports.get p).rx ≠ .broken) (idle : (s.ports.get p).request = none)
    (undefined : definedKind kind = false) :
    undefinedRequest p kind tag s = State.respond p kind (answerKind kind) tag (reply .notReady s) := by
  rw [undefinedRequest, if_neg (by simp [hears_of on heard, undefined]), idle]
  cases phase : s.phase with
  | off => exact absurd phase on
  | ready => exact absurd phase starting
  | starting cause => rfl

end Frames

end Sys2Proof.Machine

namespace Sys2Proof.Proofs

open Sys2Proof.Machine

/-- Settles O9: steps 2 and 4 of R162 by the KIND and the length of the BODY, at a handover and byte by byte. -/
theorem undefinedAndDiscarded : Obligations.UndefinedAndDiscarded := by
  refine ⟨fun p kind tag s heard => ⟨fun undefined ready idle => ?_, fun undefined starting on idle => ?_,
    fun on busy => ⟨?_, fun undefined => ?_⟩⟩, definedKind_eq, fun p kind tag body s room hunting => ⟨?_, ?_⟩⟩
  · rw [exec_undefinedRequest, undefinedRequest_ready ready heard idle undefined]
  · rw [exec_undefinedRequest, undefinedRequest_starting starting on heard idle undefined]
    rfl
  · rw [exec_frameDiscarded, frameDiscarded, if_pos ⟨hears_of on heard, Option.isSome_iff_ne_none.2 busy⟩]
    rfl
  · rw [exec_undefinedRequest, undefinedRequest_answering on heard busy undefined]
  · intro undefined on
    rw [receiveAll_frame on hunting kind tag body room, handFrame, decode_undefined undefined]
    rfl
  · intro wrong takes
    have taken := takes_counted takes
    rw [receiveAll_frame (by simp [takes.1]) hunting kind tag body room]
    have bad (known : kind.toNat ∈ 0x08 :: 0x29 :: bodyLengths.map Prod.fst)
        (h : decodeRequest p kind tag body = .badLength) := handFrame_badLength (body := body) taken
      (by rw [definedKind_eq]; exact decide_eq_true known) h
    rcases wrong with ⟨n, known, length⟩ | ⟨known, short | ⟨m, size, length⟩⟩ | ⟨known, length⟩
    · refine bad ?_ (decode_badLength known p tag length)
      exact List.mem_cons_of_mem _ (List.mem_cons_of_mem _ (List.mem_map_of_mem (f := Prod.fst) known))
    · exact bad (by simp [known]) (decode_settingsPut_short known p tag short)
    · match body, size, length with
      | [], _, _ => exact bad (by simp [known]) (decode_settingsPut_short known p tag (by simp))
      | [_], _, _ => exact bad (by simp [known]) (decode_settingsPut_short known p tag (by simp))
      | group :: index :: entry, size, length =>
        refine handFrame_badEntry taken known ?_
        rw [badEntryLength, entrySize_eq]
        simp only [List.headD_cons] at size
        rw [size]
        simp at length ⊢
        omega
    · refine bad (by simp [known]) ?_
      simp only [decodeRequest, known]
      exact bodyStopLoad_bad p tag length

end Sys2Proof.Proofs
end

section
/-!
PROOF. The transmitter, the notices and breaks of a port, and the changes of its settings (sections 10.1, 10.2, 10.6
and 11.1).
-/
namespace Sys2Proof.Machine

/-! ### What a state keeps, as an equation -/

/-- State `s` with the fields that are listed as `t` has them. -/
def State.withChanged (xs : List Aspect) (s t : State) : State :=
  { pending := if Aspect.pending ∈ xs then t.pending else s.pending
    phase := if Aspect.phase ∈ xs then t.phase else s.phase
    settings := if Aspect.settings ∈ xs then t.settings else s.settings
    store := if Aspect.store ∈ xs then t.store else s.store
    storeWrite := if Aspect.storeWrite ∈ xs then t.storeWrite else s.storeWrite
    defaulted := if Aspect.defaulted ∈ xs then t.defaulted else s.defaulted
    restartTaken := if Aspect.restartTaken ∈ xs then t.restartTaken else s.restartTaken
    restartDue := if Aspect.restartDue ∈ xs then t.restartDue else s.restartDue
    marker := if Aspect.marker ∈ xs then t.marker else s.marker
    seconds := if Aspect.seconds ∈ xs then t.seconds else s.seconds
    subMs := if Aspect.subMs ∈ xs then t.subMs else s.subMs
    clockUnset := if Aspect.clockUnset ∈ xs then t.clockUnset else s.clockUnset
    scanner := if Aspect.scanner ∈ xs then t.scanner else s.scanner
    probes := if Aspect.probes ∈ xs then t.probes else s.probes
    comps := if Aspect.comps ∈ xs then t.comps else s.comps
    watches := if Aspect.watches ∈ xs then t.watches else s.watches
    doors := if Aspect.doors ∈ xs then t.doors else s.doors
    defrosts := if Aspect.defrosts ∈ xs then t.defrosts else s.defrosts
    bases := if Aspect.bases ∈ xs then t.bases else s.bases
    lots := if Aspect.lots ∈ xs then t.lots else s.lots
    route := if Aspect.route ∈ xs then t.route else s.route
    stops := if Aspect.stops ∈ xs then t.stops else s.stops
    handoffs := if Aspect.handoffs ∈ xs then t.handoffs else s.handoffs
    claims := if Aspect.claims ∈ xs then t.claims else s.claims
    nextClaim := if Aspect.nextClaim ∈ xs then t.nextClaim else s.nextClaim
    assessor := if Aspect.assessor ∈ xs then t.assessor else s.assessor
    ports := if Aspect.ports ∈ xs then t.ports else s.ports
    report := if Aspect.report ∈ xs then t.report else s.report
    draws := if Aspect.draws ∈ xs then t.draws else s.draws }

/-- A state that keeps everything but what is listed is the earlier state with the listed fields changed. -/
theorem eq_withChanged {xs : List Aspect} {s t : State} (h : keeps xs s t) : t = s.withChanged xs t := by
  have field {α : Type} (x : Aspect) {now before : α} (kept : x ∉ xs → now = before) :
      now = if x ∈ xs then now else before := by
    by_cases changed : x ∈ xs
    · rw [if_pos changed]
    · rw [if_neg changed, kept changed]
  obtain ⟨⟩ := t
  rw [State.withChanged, State.mk.injEq]
  exact ⟨field .pending (h .pending), field .phase (h .phase), field .settings (h .settings),
    field .store (h .store), field .storeWrite (h .storeWrite), field .defaulted (h .defaulted),
    field .restartTaken (h .restartTaken), field .restartDue (h .restartDue), field .marker (h .marker),
    field .seconds (h .seconds), field .subMs (h .subMs), field .clockUnset (h .clockUnset),
    field .scanner (h .scanner), field .probes (h .probes), field .comps (h .comps),
    field .watches (h .watches), field .doors (h .doors), field .defrosts (h .defrosts),
    field .bases (h .bases), field .lots (h .lots), field .route (h .route),
    field .stops (h .stops), field .handoffs (h .handoffs), field .claims (h .claims),
    field .nextClaim (h .nextClaim), field .assessor (h .assessor), field .ports (h .ports),
    field .report (h .report), field .draws (h .draws)⟩

/-! ### Forgetting a party (R18, R158, R160, R172) -/

section Party

variable {s t : State} {p : Port}

/-- What a change of one port's bids does to the scanner: the period is worked out again. -/
theorem periodWorkedOut_of {u : State} (before : u.scanner = s.scanner) (after : t.scanner = u.recomputePeriod.scanner)
    (general : t.settings.general = u.settings.general) (bids : Aspect.bids.kept u t) : periodWorkedOut s t := by
  rw [periodWorkedOut, wantedPeriod_of_bids general bids, after, recomputePeriod_scanner, before]

theorem forgetParty_port (q : Port) : (s.forgetParty p).ports.get q =
    if q = p then { s.ports.get q with urgent := [], routine := [], bid := none } else s.ports.get q := by
  simp [State.forgetParty]

theorem forgetParty_report : (s.forgetParty p).report = s.report.filter fun r => r.holder != p := by
  simp [State.forgetParty, freeReportOf_report]

end Party

/-! ### The transmitter (R161, R163) -/

section Transmitter

variable {s : State} {p : Port}

/-- With the transmitter idle, a response that waits begins with the attention code of that instant. -/
theorem beginResponse_of_idle (idle : (s.ports.get p).tx = none) :
    s.beginResponse p = s.modPort p fun ps => { ps with tx := ps.request.map fun r => .response r (attention s p) } := by
  unfold State.beginResponse
  dsimp only
  rw [idle]
  cases waits : (s.ports.get p).request with
  | none =>
    change s = _
    refine (modPort_eq_self ?_).symm
    rw [waits, Option.map_none, ← idle, ← waits]
  | some r => exact modPort_congr s p _ _ (by simp [waits])

/-- A port's settings after a change has taken effect (R158). -/
def PortState.changed (c : PortChange) (ps : PortState) : PortState :=
  let roled := if c.role = ps.role then ps else { ps with role := c.role, bid := none, urgent := [], routine := [] }
  { roled with baud := c.baud, rx := if c.baud = ps.baud then ps.rx else ps.rx.abandon }

theorem changeRole_port (r : Role) (q : Port) : (s.changeRole p r).ports.get q = if q = p then
      (if r = (s.ports.get p).role then s.ports.get p
        else { s.ports.get p with role := r, bid := none, urgent := [], routine := [] }) else s.ports.get q := by
  unfold State.changeRole
  by_cases kept : (s.ports.get p).role = r
  · rw [if_pos kept, if_pos kept.symm]; split <;> simp [*]
  · rw [if_neg kept, if_neg (Ne.symm kept), forgetParty_port]
    split <;> simp [*]

theorem changeBaud_port (b : Baud) (q : Port) : (s.changeBaud p b).ports.get q = if q = p then
      { s.ports.get p with
        baud := b, rx := if b = (s.ports.get p).baud then (s.ports.get p).rx else (s.ports.get p).rx.abandon }
      else s.ports.get q := by
  unfold State.changeBaud
  by_cases kept : (s.ports.get p).baud = b
  · subst kept; simp only [if_true]; split <;> simp [*]
  · rw [if_neg kept, if_neg (Ne.symm kept)]
    split <;> simp [*]

theorem takeChange_port (c : PortChange) (q : Port) : (s.takeChange p c).ports.get q =
    if q = p then (s.ports.get p).changed c else s.ports.get q := by
  unfold State.takeChange PortState.changed
  rw [changeBaud_port, changeRole_port, changeRole_port, if_pos rfl]
  split
  · split <;> rfl
  · rfl

theorem withChanges_eq (l m : List PortChange) (waits : (s.ports.get p).changes = l)
    (f : List PortChange → List PortChange)
    (h : f l = m) : (s.modPort p fun ps => { ps with changes := f ps.changes }) =
      s.modPort p fun ps => { ps with changes := m } :=
  modPort_congr s p _ _ (by rw [waits, h])

theorem takeChange_frame (c : PortChange) : s.takeChange p c =
    { s with ports := (s.takeChange p c).ports, report := (s.takeChange p c).report,
             scanner := (s.takeChange p c).scanner } :=
  eq_withChanged (takeChange_keeps _ p c)

/-- A port's changes that are due take effect one after another (R158, log 12). -/
theorem portSettingsEffect_due {before after : List PortChange} {c : PortChange} (on : s.phase ≠ .off)
    (idle : (s.ports.get p).tx = none) (waits : (s.ports.get p).changes = before ++ c :: after)
    (early : before.any PortChange.due = false) (due : c.due = true) :
    portSettingsEffect p s = portSettingsEffect p
      ((s.modPort p fun ps => { ps with changes := before ++ after }).takeChange p c) := by
  have kept : before.filter PortChange.due = [] := by simpa using early
  have stays : before.filter (fun c => !c.due) = before := by simpa using early
  let t := (s.modPort p fun ps => { ps with changes := before ++ after }).takeChange p c
  have left : portSettingsEffect p s = (after.filter PortChange.due).foldl (State.takeChange p)
      ((s.modPort p fun ps => { ps with changes := before ++ after.filter fun c => !c.due }).takeChange p c) := by
    unfold portSettingsEffect
    rw [if_pos ⟨on, idle, by simp [waits, due]⟩, waits, List.filter_append, kept, List.filter_cons_of_pos due,
      List.nil_append, List.foldl_cons, withChanges_eq _ _ waits (fun l => l.filter fun c => !c.due)
        (by rw [List.filter_append, stays, List.filter_cons_of_neg (by simp [due])])]
  have phase : t.phase = s.phase := takeChange_keeps _ p c .phase (by simp)
  have port : t.ports.get p = ({ s.ports.get p with changes := before ++ after } : PortState).changed c := by
    simp [t, takeChange_port]
  have changes : (t.ports.get p).changes = before ++ after := by
    rw [port]; unfold PortState.changed; split <;> rfl
  have tx : (t.ports.get p).tx = none := by
    rw [port]; unfold PortState.changed; split <;> exact idle
  rw [left]
  change _ = portSettingsEffect p t
  by_cases more : after.any PortChange.due = true
  · have moved : (t.modPort p fun ps => { ps with changes := ps.changes.filter fun c => !c.due }) =
        (s.modPort p fun ps => { ps with changes := before ++ after.filter fun c => !c.due }).takeChange p c := by
      rw [← takeChange_changes p c (fun l => l.filter fun c => !c.due), modPort_modPort]
      refine congrArg (State.takeChange p · c) (modPort_congr s p _ _ ?_)
      simp [stays]
    unfold portSettingsEffect
    rw [if_pos ⟨phase ▸ on, tx, by simp [changes, more]⟩, moved, changes, List.filter_append, kept, List.nil_append]
  · have none : after.filter PortChange.due = [] := by simpa using more
    have all : after.filter (fun c => !c.due) = after := by simpa using more
    rw [portSettingsEffect_none (.inr (.inr (by rw [changes, List.any_append, early]; simpa using more))), none, all]
    rfl
end Transmitter

/-! ### Notices (R174, R175) -/

/-- The notice codes to which a role subscribes (R174). -/
def subscribed : Role → List Nat
  | .cab => [0x01, 0x02, 0x03, 0x04, 0x05, 0x06, 0x07, 0x08, 0x0A, 0x0B, 0x0C]
  | .dock => [0x01, 0x02, 0x03, 0x05, 0x06, 0x09, 0x0C, 0x0D]
  | .cooling => [0x01, 0x02, 0x03, 0x05, 0x06, 0x08, 0x09, 0x0E]
  | .noRole => []

theorem wantedBy_eq (b : NoticeBody) (r : Role) : b.wantedBy r = decide (b.code.toNat ∈ subscribed r) := by
  cases r <;> cases b <;> rfl

theorem urgent_iff (b : NoticeBody) : b.urgent = true ↔ b.code.toNat ∈ [0x01, 0x03, 0x04, 0x05, 0x06, 0x07] ∨
    ∃ d time cause, b = .doorChange d true time (some .unscheduled) cause := by
  cases b
  case doorChange d isOpen time kind cause =>
    cases isOpen <;> simp [NoticeBody.urgent, NoticeBody.code]
  all_goals simp [NoticeBody.urgent, NoticeBody.code]

end Sys2Proof.Machine
end

section
/-!
PROOF. What the ports do: the end of a frame, notices, breaks, changes of PORT settings, and the requests about a port
(sections 1.7, 10.1 to 10.6, 11.1).
-/
namespace Sys2Proof.Machine

variable {s : State} {p : Port}

/-! ### The transmitter -/

theorem takeChanges_port (l : List PortChange) :
    ((l.foldl (State.takeChange p) s).ports.get p).request = (s.ports.get p).request ∧
      ((l.foldl (State.takeChange p) s).ports.get p).tx = (s.ports.get p).tx := by
  induction l generalizing s with
  | nil => exact ⟨rfl, rfl⟩
  | cons c l ih =>
    obtain ⟨request, tx⟩ := ih (s := s.takeChange p c)
    rw [List.foldl_cons, request, tx, takeChange_port, if_pos rfl]
    unfold PortState.changed
    constructor <;> split <;> rfl

theorem portSettingsEffect_port :
    ((portSettingsEffect p s).ports.get p).request = (s.ports.get p).request ∧
      ((portSettingsEffect p s).ports.get p).tx = (s.ports.get p).tx := by
  unfold portSettingsEffect
  dsimp only
  split
  · obtain ⟨request, tx⟩ := takeChanges_port (p := p)
      (s := s.modPort p fun ps => { ps with changes := ps.changes.filter fun c => !c.due })
      ((s.ports.get p).changes.filter PortChange.due)
    exact ⟨request.trans (by simp), tx.trans (by simp)⟩
  · exact ⟨rfl, rfl⟩

theorem responseSent_eq {r : Response} {code : Nat} (sends : (s.ports.get p).tx = some (.response r code)) :
    responseSent p s = (s.modPort p fun ps => { ps with tx := none, request := none }).applyAfter p r := by
  unfold responseSent
  rw [sends]

theorem noticeFrameEnd_eq {n : Notice} {code : Nat} (sends : (s.ports.get p).tx = some (.notice n code)) :
    noticeFrameEnd p s = (portSettingsEffect p (s.modPort p fun ps => { ps with tx := none })).beginResponse p := by
  unfold noticeFrameEnd
  rw [sends]

/-! ### Notices -/

theorem maySend_iff : s.maySend p = true ↔ s.phase = .ready ∧ (s.ports.get p).request = none ∧
    (s.ports.get p).rx ≠ .broken ∧ (s.ports.get p).sending = true ∧ (s.ports.get p).tx = none := by
  simp [State.maySend, and_assoc]

/-! ### Breaks -/

theorem applyAfter_port (r : Response) (q : Port) : (s.applyAfter p r).ports.get q =
    { s.ports.get q with changes := if r.after = .port q then
        (s.ports.get q).changes.map (PortChange.answered p) else (s.ports.get q).changes } := by
  unfold State.applyAfter
  cases after : r.after with
  | nothing => rfl
  | restart => rfl
  | port q' =>
    by_cases same : q = q'
    · subst same; simp
    · simp [same, Ne.symm same]

theorem applyAfter_restartDue (r : Response) :
    (s.applyAfter p r).restartDue = (s.restartDue || r.after == .restart) := by
  unfold State.applyAfter
  cases r.after with
  | nothing | port q => exact (Bool.or_false _).symm
  | restart => exact (Bool.or_true _).symm

theorem dropResponse_port (q : Port) : (s.dropResponse p).ports.get q =
    let ps := if q = p then { s.ports.get q with request := none, tx := none } else s.ports.get q
    { ps with changes := if (s.ports.get p).request.any (fun r => r.after == .port q) = true then
        ps.changes.map (PortChange.answered p) else ps.changes } := by
  unfold State.dropResponse
  cases (s.ports.get p).request with
  | none => by_cases same : q = p <;> simp [same]
  | some r =>
    dsimp only
    rw [applyAfter_port]
    by_cases same : q = p <;> simp [same]

theorem dropResponse_restartDue :
    (s.dropResponse p).restartDue = (s.restartDue || (s.ports.get p).request.any fun r => r.after == .restart) := by
  unfold State.dropResponse
  cases (s.ports.get p).request with
  | none => simp
  | some r => simp [applyAfter_restartDue]

theorem portBreak_eq (on : s.phase ≠ .off) (sound : (s.ports.get p).rx ≠ .broken) :
    portBreak p s = ((s.modPort p fun ps => { ps with rx := .broken }).forgetParty p).dropResponse p := by
  unfold portBreak State.hears
  rw [if_pos (by simp [on, sound])]

theorem portBreak_period (on : s.phase ≠ .off) (sound : (s.ports.get p).rx ≠ .broken) :
    periodWorkedOut s (portBreak p s) := by
  let u := State.freeReportOf (State.modPort (s.modPort p fun ps => { ps with rx := .broken }) p
    fun ps => { ps with urgent := [], routine := [], bid := none }) p
  rw [portBreak_eq on sound]
  have drops := dropResponse_keeps (s := (s.modPort p fun ps => { ps with rx := .broken }).forgetParty p) (p := p)
  refine periodWorkedOut_of (u := u) (by simp [u]) (drops .scanner (by simp)) ?_ fun q => ?_
  · rw [drops .settings (by simp)]
    simp [u, State.forgetParty]
  · rw [drops .bids (by simp) q]
    simp [u, State.forgetParty]

/-! ### Changes of PORT settings -/

theorem takeChange_kept_role {c : PortChange} (kept : c.role = (s.ports.get p).role) :
    (s.takeChange p c).report = s.report ∧ (s.takeChange p c).scanner = s.scanner := by
  unfold State.takeChange State.changeRole State.changeBaud
  rw [if_pos kept.symm]
  split <;> exact ⟨rfl, rfl⟩

theorem takeChange_new_role {c : PortChange} (new : c.role ≠ (s.ports.get p).role) :
    (s.takeChange p c).report = (s.report.filter fun r => r.holder != p) ∧
      periodWorkedOut s (s.takeChange p c) := by
  let u := State.freeReportOf (State.modPort (s.modPort p fun ps => { ps with role := c.role }) p
    fun ps => { ps with urgent := [], routine := [], bid := none }) p
  have role : s.changeRole p c.role = u.recomputePeriod := by
    unfold State.changeRole
    rw [if_neg (Ne.symm new)]
    rfl
  have baud : keeps [.ports] u.recomputePeriod (s.takeChange p c) := by
    unfold State.takeChange State.changeBaud
    rw [role]
    split
    · exact keeps.refl _ _
    · exact modPort_keeps _ _ (fun _ => rfl) fun _ => id
  constructor
  · rw [baud .report (by simp)]
    simp [u, freeReportOf_report]
  · refine periodWorkedOut_of (u := u) (by simp [u]) (baud .scanner (by simp)) ?_ fun q => ?_
    · rw [baud .settings (by simp)]
      simp [u]
    · rw [baud .bids (by simp) q]
      simp [u]

theorem PortState.changed_of_kept_role {c : PortChange} {ps : PortState} (kept : c.role = ps.role) :
    ps.changed c = { ps with baud := c.baud, rx := if c.baud = ps.baud then ps.rx else ps.rx.abandon } := by
  unfold PortState.changed
  rw [if_pos kept]

theorem PortState.changed_of_new_role {c : PortChange} {ps : PortState} (new : c.role ≠ ps.role) :
    ps.changed c = { ps with
      role := c.role, baud := c.baud, rx := if c.baud = ps.baud then ps.rx else ps.rx.abandon, bid := none,
      urgent := [], routine := [] } := by
  unfold PortState.changed
  rw [if_neg new]

end Sys2Proof.Machine

namespace Sys2Proof.Proofs
open Sys2Proof.Machine

/-- Settles O10: the transmitter's two ends, case by case. -/
theorem transmitterEnds : Obligations.TransmitterEnds := by
  intro p s r n code
  refine ⟨fun sends => ?_, fun sends => ?_⟩
  · change Host.Outcome.next (responseSent p s) = _
    rw [responseSent_eq sends]
    unfold State.applyAfter
    cases r.after <;> rfl
  · intro t
    obtain ⟨request, tx⟩ := portSettingsEffect_port (s := t) (p := p)
    refine ⟨portSettingsEffect p t, rfl, fun quiet => ?_, request.trans (by simp [t]), ?_⟩
    · exact portSettingsEffect_none (.inr (.inr (by simpa [t] using quiet)))
    · change Host.Outcome.next (noticeFrameEnd p s) = _
      rw [noticeFrameEnd_eq sends, beginResponse_of_idle (tx.trans (by simp [t]))]

/-- Settles O11: the conditions of R176, and the oldest notice of the first queue that holds one. -/
theorem noticeSend : Obligations.NoticeSend := by
  refine ⟨?_, fun n code => rfl, ?_⟩
  · intro b
    cases b with
    | doorHeld d start kind => cases kind <;> rfl
    | doorChange d isOpen time kind cause => cases kind <;> rfl
    | claimDecided n j lot v r => cases r <;> rfl
    | _ => rfl
  · intro p s ps
    change Host.Outcome.next (Machine.noticeSend p s) = _
    unfold Machine.noticeSend
    congr 1
    by_cases may : s.maySend p = true
    · rw [if_pos may, if_pos (maySend_iff.1 may)]
      unfold State.beginNotice
      cases urgent : (s.ports.get p).urgent with
      | cons n rest =>
        dsimp only
        rw [attention_modPort s p (fun ps => { ps with urgent := rest }) fun _ => rfl, modPort_modPort]
        rfl
      | nil =>
        cases routine : (s.ports.get p).routine with
        | cons n rest =>
          dsimp only
          rw [attention_modPort s p (fun ps => { ps with routine := rest }) fun _ => rfl, modPort_modPort]
          rfl
        | nil => rfl
    · rw [if_neg may, if_neg fun h => may (maySend_iff.2 h)]

/-- Settles O12: the subscription table, and each branch of the queueing. -/
theorem noticePost : Obligations.NoticePost := by
  intro s b p n ps codes urgent
  have codes_eq : codes = subscribed ps.role := by
    unfold codes
    cases ps.role <;> rfl
  have wanted : b.wantedBy ps.role = decide (b.code.toNat ∈ codes) := by rw [wantedBy_eq, codes_eq]
  have isUrgent : b.urgent = true ↔ urgent := urgent_iff b
  refine ⟨rfl, by simp [State.post, n, ps], fun out => ?_, fun wants isUrgent' => ?_, fun wants routine => ?_⟩
  · unfold PortState.enqueue
    rw [if_pos (by simp [n, wanted, out])]
  · unfold PortState.enqueue
    rw [if_neg (by simp [n, wanted, wants]), if_pos (isUrgent.2 isUrgent')]
  · unfold PortState.enqueue
    rw [if_neg (by simp [n, wanted, wants]), if_neg fun h => routine (isUrgent.1 h), List.drop_one, satAdd_succ]
    rfl

/-- Settles O13: a break forgets the party and drops its response. -/
theorem portBreak : Obligations.PortBreak := by
  intro p s on
  refine ⟨fun sound => ⟨Machine.portBreak p s, rfl, eq_withChanged (portBreak_keeps s p), ?_,
    portBreak_period on sound, ?_, fun q => ?_⟩, fun broken => ⟨?_, ?_⟩⟩
  · rw [portBreak_eq on sound, dropResponse_keeps _ p .report (by simp), forgetParty_report]
    rfl
  · rw [portBreak_eq on sound, dropResponse_restartDue, forgetParty_port]
    simp [State.forgetParty]
  · rw [portBreak_eq on sound, dropResponse_port, forgetParty_port, forgetParty_port]
    by_cases same : q = p <;> simp [same] <;> rfl
  · change Host.Outcome.next (Machine.portBreak p s) = _
    unfold Machine.portBreak State.hears
    rw [if_neg (by simp [broken])]
  · change Host.Outcome.next (Machine.breakEnd p s) = _
    unfold Machine.breakEnd
    rw [if_pos ⟨on, broken⟩]

/-- Settles O14: the first due change takes effect, and then those after it. -/
theorem portSettingsEffect : Obligations.PortSettingsEffect := by
  intro p s
  refine ⟨fun quiet => congrArg Host.Outcome.next (portSettingsEffect_none quiet), ?_⟩
  intro before after c on idle waits early due
  let u := s.modPort p fun ps => { ps with changes := before ++ after }
  have port : u.ports.get p = { s.ports.get p with changes := before ++ after } := by simp [u]
  have effect := portSettingsEffect_due on idle waits early due
  have changed (q : Port) : (u.takeChange p c).ports.get q =
      if q = p then (u.ports.get p).changed c else s.ports.get q := by
    rw [takeChange_port]
    by_cases same : q = p <;> simp [u, same]
  have changes : ((u.takeChange p c).ports.get p).changes = before ++ after := by
    rw [changed, if_pos rfl, port]
    unfold PortState.changed
    split <;> rfl
  refine ⟨u.takeChange p c, ?_, ?_, fun q other => ?_, ?_⟩
  · split
    · exact congrArg Host.Outcome.next effect
    · next quiet =>
      refine congrArg Host.Outcome.next (effect.trans (portSettingsEffect_none (.inr (.inr ?_))))
      rw [changes, List.any_append, early]
      simpa using quiet
  · rw [takeChange_frame]
    rfl
  · rw [changed, if_neg other]
  · intro ps rx
    have abandoned : (if c.baud = ps.baud then ps.rx else ps.rx.abandon) = rx := by
      simp only [rx]
      cases ps.rx <;> simp [Receiver.abandon]
    rw [changed, if_pos rfl, port, ← abandoned]
    by_cases kept : c.role = ps.role
    · rw [if_pos kept]
      obtain ⟨report, scanner⟩ := takeChange_kept_role (s := u) (p := p) (c := c) (by rw [port]; exact kept)
      exact ⟨report, scanner, PortState.changed_of_kept_role kept⟩
    · rw [if_neg kept]
      obtain ⟨report, period⟩ := takeChange_new_role (s := u) (p := p) (c := c) (by rw [port]; exact kept)
      exact ⟨report, period, PortState.changed_of_new_role kept⟩

/-- Settles O15: the three rules as they stand. -/
theorem portRequests : Obligations.PortRequests := by
  refine ⟨fun p tag s takes => ?_, fun ps => ?_, fun p tag s takes => ?_, fun p tag value s takes => ?_⟩
  · intro ps waits clamped held
    have same : held = Report.held := by
      funext r
      unfold Report.held
      cases h : r.timer <;> simp [held, h]
    rw [same]
    exact exec_answered rfl takes rfl
  · unfold PortState.refusalBytes
    cases ps.refusal <;> rfl
  · exact exec_answered rfl takes rfl
  · intro ps
    by_cases off : value = 0
    · subst off
      exact exec_answered rfl takes rfl
    · by_cases on : value = 1
      · subst on
        exact exec_answered rfl takes rfl
      · rw [if_neg (not_or.2 ⟨off, on⟩)]
        refine exec_answered rfl takes ?_
        change actNoticeEnable p value s = _
        unfold actNoticeEnable readFlag
        rw [if_neg off, if_neg on]

/-- Settles O16: the bid is placed, and the period worked out again. -/
theorem scanBid : Obligations.ScanBid := by
  intro p tag seconds s takes
  let bid : Option Nat := if seconds = 0 then none else some seconds.toNat
  let u := s.modPort p fun ps => { ps with bid := bid }
  refine ⟨u.recomputePeriod, exec_answered rfl takes ?_, ?_, fun q => ?_, ?_⟩
  · by_cases withdrawn : seconds = 0
    · subst withdrawn
      rfl
    · rw [if_neg withdrawn]
      change actScanBid p seconds s = _
      unfold actScanBid
      simp only [u, bid, if_neg withdrawn]
      rfl
  · exact eq_withChanged (actScanBid_keeps s p seconds)
  · by_cases same : q = p <;> simp [u, bid, same]
  · exact periodWorkedOut_of (u := u) rfl rfl (by simp) fun q => by simp

end Sys2Proof.Proofs
end

section
/-!
PROOF. The doors (chapter 3): what an accepted change, a new level, the held limit, a second of a stop accumulator and a
rearm do.
-/
namespace Sys2Proof.Machine

variable {s : State} {d : Comp}

/-! ### Levels (R37, R38) -/

/-- Two changes of a door that agree on that door are one change. -/
theorem modDoor_congr {f g : Door → Door} (h : f (s.doors.get d) = g (s.doors.get d)) :
    s.modDoor d f = s.modDoor d g := by
  unfold State.modDoor modAt
  rw [h]

theorem Door.differs_eq (cfg : DoorCfg) (x : Door) : x.differs cfg = match x.state with
    | .unsettled => true
    | .closed => x.inputOpen cfg
    | _ => !x.inputOpen cfg := by
  unfold Door.differs
  cases x.state <;> rfl

theorem Door.inputOpen_eq (cfg : DoorCfg) (x : Door) :
    x.inputOpen cfg = (decide (cfg.polarity = .openHigh) == x.high) := by
  unfold Door.inputOpen
  cases cfg.polarity <;> cases x.high <;> rfl

theorem Door.isOpen_iff (x : Door) : x.isOpen = true ↔ x.state = .opened ∨ x.state = .held := by
  simp [Door.isOpen]

theorem changeIsDue_iff : s.changeIsDue d = true ↔ (s.doors.get d).differs (s.settings.doors.get d) = true ∧
    (s.doors.get d).candidate.any (fun n => decide ((s.settings.doors.get d).debounce ≤ n)) = true := by
  unfold State.changeIsDue
  dsimp only
  cases (s.doors.get d).candidate <;> simp

/-! ### Accepted changes (R39, R41, R42, R44) -/

theorem openingKind_eq (s : State) : s.openingKind =
    if s.route.state = .dispatched then if s.route.openStop = none then .unscheduled else .scheduled else .depot := by
  unfold State.openingKind
  cases s.route.state with
  | dispatched => cases s.route.openStop <;> rfl
  | _ => rfl

theorem chargeOpening_eq (s : State) (d : Comp) : s.chargeOpening d =
    State.post { s with lots := mapV (Option.map fun l : Lot => if l.accounting = true ∧ l.comp = d then
      { l with acct := { l.acct with openings := min (l.acct.openings + 1) 255 } } else l) s.lots }
      (.unscheduledOpening d s.seconds
        (s.lots.toList.countP fun o => o.any fun l => l.accounting && l.comp == d)) := by
  unfold State.chargeOpening
  rw [countLots_eq]
  simp only [Lot.accountingIn_iff, satAdd_succ]
  rfl

/-- What an accepted change does to a latch, whatever it did before (R44). -/
theorem latchChange_eq (isOpen : Bool) (kind : Option OpeningKind) {latch : Option DoorLatch} {now : Time}
    (held : (s.doors.get d).latch = latch) (time : s.seconds = now) :
    s.latchChange d isOpen kind = match (generalizing := false) latch with
      | none => (s.modDoor d fun y => { y with latch := some ⟨isOpen, now, kind, .change, 0⟩ }).post
          (.doorChange d isOpen now kind .change)
      | some l => s.modDoor d fun y => { y with latch := some { l with unreported := min (l.unreported + 1) 255 } } := by
  subst held time
  unfold State.latchChange
  cases (s.doors.get d).latch with
  | none => rfl
  | some l =>
    dsimp only
    rw [satAdd_succ]
    rfl

theorem acceptLevel_of_unsettled (unsettled : (s.doors.get d).state = .unsettled) :
    s.acceptLevel d = s.modDoor d fun x => { x with
      candidate := none, lastChange := some s.seconds,
      state := if (s.doors.get d).inputOpen (s.settings.doors.get d) then .opened else .closed,
      period := if (s.doors.get d).inputOpen (s.settings.doors.get d) then some ⟨s.seconds, none, 0⟩ else none } := by
  unfold State.acceptLevel
  simp only [unsettled]

theorem acceptLevel_of_closed (closed : (s.doors.get d).state = .closed) :
    s.acceptLevel d = State.latchChange
      ((if s.openingKind = .unscheduled then s.chargeOpening d else s).modDoor d fun x => { x with
        candidate := none, lastChange := some s.seconds, state := .opened,
        period := some ⟨s.seconds, some s.openingKind, 0⟩ }) d true (some s.openingKind) := by
  unfold State.acceptLevel
  simp only [closed]

theorem acceptLevel_of_open (isOpen : (s.doors.get d).state = .opened ∨ (s.doors.get d).state = .held) :
    s.acceptLevel d = State.latchChange (s.modDoor d fun x => { x with
      candidate := none, lastChange := some s.seconds, state := .closed, period := none }) d false none := by
  unfold State.acceptLevel
  rcases isOpen with h | h <;> simp only [h]

/-! ### The held limit, stop accumulators, and the rearm (R40, R45, R47, R48) -/

theorem heldIsDue_of {x : OpenPeriod} (isOpen : (s.doors.get d).state = .opened)
    (period : (s.doors.get d).period = some x) :
    s.heldIsDue d = decide ((s.settings.doors.get d).heldLimit ≤ x.held) := by
  unfold State.heldIsDue
  simp [isOpen, period]

theorem heldIsDue_false (h : ∀ x, (s.doors.get d).state = .opened → (s.doors.get d).period = some x →
    x.held < (s.settings.doors.get d).heldLimit) : s.heldIsDue d = false := by
  by_cases isOpen : (s.doors.get d).state = .opened
  · cases period : (s.doors.get d).period with
    | none => simp [State.heldIsDue, period]
    | some x => rw [heldIsDue_of isOpen period]; simpa using h x isOpen period
  · simp [State.heldIsDue, isOpen]

theorem enterHeld_of {x : OpenPeriod} (period : (s.doors.get d).period = some x) :
    s.enterHeld d = (s.modDoor d fun y => { y with state := .held }).post (.doorHeld d x.start x.kind) := by
  unfold State.enterHeld
  rw [period]

theorem setAt_setAt {α : Type} {n : Nat} (v : Vector α n) (i : Fin n) (x y : α) :
    setAt (setAt v i x) i y = setAt v i y :=
  table_ext fun j => by by_cases same : j = i <;> simp [same]

theorem addDoorSecond_eq {n : StopNo} {st : Stop} {t : State}
    (counted : t = (s.modDoor d fun x => { x with stopAcc := x.stopAcc - 1000 }).modStop n fun st =>
      { st with doorSecs := modAt st.doorSecs d fun k => satAdd 16 k 1 })
    (found : t.stops.get n = some st) :
    s.addDoorSecond n d = if 0 < st.budget ∧ st.budget < st.doorSum ∧ st.doorOver = false then
      (t.modStop n fun st => { st with doorOver := true }).post (.doorOver n st.budget st.doorSum) else t := by
  subst counted
  unfold State.addDoorSecond
  dsimp only
  rw [found]

/-- A stop's whole door second: the accumulator, the door's seconds, and the budget on their sum (R47, R48). -/
theorem addDoorSecond_some {n : StopNo} {st : Stop} (found : s.stops.get n = some st) {secs : Vector Nat 4}
    (counted : secs = setAt st.doorSecs d (min (st.doorSecs.get d + 1) 65535)) :
    s.addDoorSecond n d =
      let exceeds := 0 < st.budget ∧ st.budget < secs.toList.sum ∧ st.doorOver = false
      let t := { s with
        doors := modAt s.doors d fun x => { x with stopAcc := x.stopAcc - 1000 }
        stops := setAt s.stops n (some { st with doorSecs := secs, doorOver := st.doorOver || decide exceeds }) }
      if exceeds then t.post (.doorOver n st.budget secs.toList.sum) else t := by
  let exceeds := 0 < st.budget ∧ st.budget < secs.toList.sum ∧ st.doorOver = false
  let t := { s with
    doors := modAt s.doors d fun x => { x with stopAcc := x.stopAcc - 1000 }
    stops := setAt s.stops n (some { st with doorSecs := secs, doorOver := st.doorOver || decide exceeds }) }
  change _ = if exceeds then t.post (.doorOver n st.budget secs.toList.sum) else t
  have added : (modAt st.doorSecs d fun k => satAdd 16 k 1) = secs := by
    rw [counted, modAt, satAdd_succ]
    rfl
  let u := { s with
    doors := modAt s.doors d fun x => { x with stopAcc := x.stopAcc - 1000 }
    stops := setAt s.stops n (some { st with doorSecs := secs }) }
  have counted : u = (s.modDoor d fun x => { x with stopAcc := x.stopAcc - 1000 }).modStop n fun st =>
      { st with doorSecs := modAt st.doorSecs d fun k => satAdd 16 k 1 } := by
    rw [modStop_some _ (by exact found), added]
    rfl
  have stands : u.stops.get n = some { st with doorSecs := secs } := get_setAt_self _ _ _
  rw [addDoorSecond_eq counted stands]
  change (if exceeds then (u.modStop n fun st => { st with doorOver := true }).post
    (.doorOver n st.budget secs.toList.sum) else u) = _
  by_cases exceeded : exceeds
  · rw [if_pos exceeded, if_pos exceeded, modStop_some _ stands]
    simp only [u, setAt_setAt, t, decide_eq_true exceeded, Bool.or_true]
  · rw [if_neg exceeded, if_neg exceeded]
    simp only [u, t, decide_eq_false exceeded, Bool.or_false]

/-- A rearm, with the door's level and the kind that it latches (R45). -/
theorem rearm_eq {isOpen : Bool} {kind : Option OpeningKind} (level : (s.doors.get d).isOpen = isOpen)
    (latched : kind = if isOpen then (s.doors.get d).period.bind fun o => o.kind else none) :
    s.rearm d = match (s.doors.get d).latch with
      | none => s.modDoor d fun x => { x with latch := none }
      | some l =>
        if (s.doors.get d).state ≠ .unsettled ∧ isOpen ≠ l.isOpen then
          ((s.modDoor d fun x => { x with latch := none }).modDoor d fun x => { x with
            latch := some ⟨isOpen, s.seconds, kind, .rearm, 0⟩ }).post (.doorChange d isOpen s.seconds kind .rearm)
        else s.modDoor d fun x => { x with latch := none } := by
  subst level latched
  unfold State.rearm
  dsimp only
  cases (s.doors.get d).latch <;> rfl

end Sys2Proof.Machine

namespace Sys2Proof.Proofs
open Sys2Proof.Machine

/-- Settles O53: the level that a door accepts, by the state that it leaves. -/
theorem acceptedChange : Obligations.AcceptedChange := by
  intro d t s on waits due x level kind lots latch
  have opens : x.inputOpen (s.settings.doors.get d) = level := Door.inputOpen_eq _ _
  have takes (differs : x.differs (s.settings.doors.get d) = true) :
      exec (.acceptedChange d) s = .next (s.acceptLevel d) := by
    change Host.Outcome.next (Machine.acceptedChange d s) = _
    unfold Machine.acceptedChange
    rw [if_pos ⟨on, changeIsDue_iff.2 ⟨differs, by simp [waits, due]⟩⟩]
  have stays (same : x.differs (s.settings.doors.get d) = false) : exec (.acceptedChange d) s = .next s := by
    change Host.Outcome.next (Machine.acceptedChange d s) = _
    unfold Machine.acceptedChange
    rw [if_neg fun h => absurd ((changeIsDue_iff.1 h.2).1.symm.trans same) (by simp)]
  have latched (u : State) (isOpen : Bool) (k : Option OpeningKind) (held : (u.doors.get d).latch = x.latch)
      (time : u.seconds = s.seconds) : u.latchChange d isOpen k = latch isOpen k u :=
    latchChange_eq isOpen k held time
  have shuts (isOpen : x.state = .opened ∨ x.state = .held) : s.acceptLevel d =
      latch false none (s.modDoor d fun y => { y with
          candidate := none, lastChange := some s.seconds, state := .closed, period := none }) := by
    rw [acceptLevel_of_open isOpen, latched _ _ _ (by simp [x]) (by rfl)]
  cases state : x.state with
  | unsettled =>
    rw [takes (by unfold Door.differs; rw [state]), acceptLevel_of_unsettled state, opens]
    cases level <;> rfl
  | closed =>
    have differs : x.differs (s.settings.doors.get d) = level := by unfold Door.differs; rw [state]; exact opens
    cases isOpen : level with
    | false => exact stays (differs.trans isOpen)
    | true =>
      have kept : (if kind = .unscheduled then s.chargeOpening d else s).seconds = s.seconds ∧
          (if kind = .unscheduled then s.chargeOpening d else s).doors = s.doors := by
        split <;> exact ⟨rfl, rfl⟩
      rw [takes (differs.trans isOpen), acceptLevel_of_closed state,
        show s.openingKind = kind from openingKind_eq s, latched _ _ _ (by simp [x, kept.2]) (by exact kept.1),
          chargeOpening_eq]
  | opened =>
    have differs : x.differs (s.settings.doors.get d) = !level := by unfold Door.differs; rw [state, opens]
    cases isOpen : level with
    | true => exact stays (by rw [differs, isOpen]; rfl)
    | false => rw [takes (by rw [differs, isOpen]; rfl), shuts (.inl state)]
  | held =>
    have differs : x.differs (s.settings.doors.get d) = !level := by unfold Door.differs; rw [state, opens]
    cases isOpen : level with
    | true => exact stays (by rw [differs, isOpen]; rfl)
    | false => rw [takes (by rw [differs, isOpen]; rfl), shuts (.inr state)]

/-- Settles O52: a new level, the held limit, and a whole second of a stop accumulator. -/
theorem doorEvents : Obligations.DoorEvents := by
  refine ⟨fun d high s on => ?_, fun d x s ready isOpen period reached => ?_,
    fun d n st s on isOpen found whole => ?_⟩
  · intro x isOpen
    change Host.Outcome.next (doorInputLevel d high s) = _
    unfold doorInputLevel
    by_cases same : (s.doors.get d).high = high
    · rw [if_pos same, if_pos same]
    · rw [if_neg same, if_neg same]
      refine congrArg Host.Outcome.next (modDoor_congr ?_)
      dsimp only
      rw [if_neg on]
      have level : Door.inputOpen (s.settings.doors.get d) { x with high := high } = isOpen := Door.inputOpen_eq _ _
      rw [Door.differs_eq, level]
      cases x.state <;> cases isOpen <;> rfl
  · change Host.Outcome.next (heldLimitReached d s) = _
    unfold heldLimitReached
    rw [if_pos ⟨ready, by rw [heldIsDue_of isOpen period]; simpa using reached⟩, enterHeld_of period]
  · intro secs exceeds t
    change Host.Outcome.next (stopDoorSecond d s) = _
    unfold stopDoorSecond
    rw [(currentStop_some s).2 ⟨isOpen, found⟩]
    dsimp only
    rw [if_pos ⟨on, whole⟩, addDoorSecond_some found (secs := secs) rfl]

/-- Settles O26: the latch is cleared, and taken again where the level differs. -/
theorem doorRearm : Obligations.DoorRearm := by
  refine ⟨fun p tag door s high takes => ?_, fun p tag door d s index takes => ?_⟩
  · refine exec_answered rfl takes ?_
    change actDoorRearm door s = _
    unfold actDoorRearm
    rw [indexIn_eq_none.2 high]
  · intro x isOpen cleared kind
    refine ⟨s.rearm d, exec_answered rfl takes ?_, ?_⟩
    · change actDoorRearm door s = _
      unfold actDoorRearm
      rw [index]
    · have level : x.isOpen = decide isOpen := by
        rw [Bool.eq_iff_iff, Door.isOpen_iff, decide_eq_true_iff]
      exact rearm_eq level (by simp [kind, x])

end Sys2Proof.Proofs
end

section
/-!
PROOF. The clock, the settings and the starts (sections 11.3 to 11.5): what CLOCK_SET, an accepted SETTINGS_PUT, RESTART,
the supplies and a full start do.
-/
namespace Sys2Proof.Machine

variable {s : State}

/-! ### Accepted entries (R2, R34, R50, R62) -/

section Door

variable {d : Comp}

theorem latchChange_doors (isOpen : Bool) (kind : Option OpeningKind) :
    ∃ latch, (s.latchChange d isOpen kind).doors = modAt s.doors d fun x => { x with latch := latch } := by
  rw [latchChange_eq isOpen kind rfl rfl]
  cases (s.doors.get d).latch with
  | none => exact ⟨_, rfl⟩
  | some l => exact ⟨_, rfl⟩

/-- The door after an accepted change, but for its latch (R39). -/
theorem acceptLevel_doors {level : Bool} (opens : (s.doors.get d).inputOpen (s.settings.doors.get d) = level)
    (differs : (s.doors.get d).differs (s.settings.doors.get d) = true) :
    ∃ (latch : Option DoorLatch) (kind : Option OpeningKind),
      (s.acceptLevel d).doors = modAt s.doors d fun x => { x with
        candidate := none, lastChange := some s.seconds, state := if level then .opened else .closed,
        period := if level then some ⟨s.seconds, kind, 0⟩ else none, latch := latch } := by
  have ended (u : State) (doors : u.doors = s.doors) (f : Door → Door) (isOpen : Bool) (kind : Option OpeningKind) :
      ∃ latch, (State.latchChange (u.modDoor d f) d isOpen kind).doors =
        modAt s.doors d fun x => { f x with latch := latch } := by
    obtain ⟨latch, changed⟩ := latchChange_doors (s := u.modDoor d f) (d := d) isOpen kind
    exact ⟨latch, by rw [changed, State.modDoor_doors, modAt_modAt, doors]; rfl⟩
  rw [Door.differs_eq, opens] at differs
  cases state : (s.doors.get d).state with
  | unsettled =>
    refine ⟨(s.doors.get d).latch, none, ?_⟩
    rw [acceptLevel_of_unsettled state, opens, State.modDoor_doors]
    unfold modAt
    rfl
  | closed =>
    obtain rfl : level = true := by simpa [state] using differs
    obtain ⟨latch, changed⟩ := ended (if s.openingKind = .unscheduled then s.chargeOpening d else s)
      (by split <;> rfl) _ true (some s.openingKind)
    exact ⟨latch, some s.openingKind, by rw [acceptLevel_of_closed state, changed]; rfl⟩
  | opened =>
    obtain rfl : level = false := by simpa [state] using differs
    obtain ⟨latch, changed⟩ := ended s rfl _ false none
    exact ⟨latch, none, by rw [acceptLevel_of_open (.inl state), changed]; rfl⟩
  | held =>
    obtain rfl : level = false := by simpa [state] using differs
    obtain ⟨latch, changed⟩ := ended s rfl _ false none
    exact ⟨latch, none, by rw [acceptLevel_of_open (.inr state), changed]; rfl⟩

/-- Away from a route no opening is UNSCHEDULED, and no lot is charged (R41, R42). -/
theorem acceptLevel_keeps_depot (depot : s.route.state ≠ .dispatched) : keeps [.doors, .ports] s (s.acceptLevel d) := by
  have scheduled : s.openingKind ≠ .unscheduled := by
    rw [openingKind_eq, if_neg depot]
    simp
  have latched (f : Door → Door) (isOpen : Bool) (kind : Option OpeningKind) :
      keeps [.doors, .ports] s (State.latchChange (s.modDoor d f) d isOpen kind) :=
    (modDoor_keeps s d f).andThen (latchChange_keeps _ d isOpen kind) (by simp)
  cases state : (s.doors.get d).state with
  | unsettled => rw [acceptLevel_of_unsettled state]; exact (modDoor_keeps s d _).mono (by simp)
  | closed => rw [acceptLevel_of_closed state, if_neg scheduled]; exact latched _ _ _
  | opened => rw [acceptLevel_of_open (.inl state)]; exact latched _ _ _
  | held => rw [acceptLevel_of_open (.inr state)]; exact latched _ _ _

/-- Nothing that was open before the accepted change is due to be HELD after it. -/
theorem acceptLevel_not_held (limit : 0 < (s.settings.doors.get d).heldLimit)
    (differs : (s.doors.get d).differs (s.settings.doors.get d) = true) : (s.acceptLevel d).heldIsDue d = false := by
  obtain ⟨latch, kind, doors⟩ := acceptLevel_doors rfl differs
  have settings : (s.acceptLevel d).settings = s.settings := acceptLevel_keeps s d .settings (by simp)
  refine heldIsDue_false fun x isOpen period => ?_
  rw [doors, get_modAt, if_pos rfl] at period
  dsimp only at period
  split at period
  · obtain rfl := Option.some.inj period
    rwa [settings]
  · cases period

theorem doorSettings_of_new_polarity {old : DoorCfg} (new : (s.settings.doors.get d).polarity ≠ old.polarity) :
    s.doorSettings d old =
      s.modDoor d fun x => { x with state := .unsettled, candidate := some 0, period := none } := by
  unfold State.doorSettings
  rw [if_pos new]

theorem doorSettings_of_due {old : DoorCfg} (same : (s.settings.doors.get d).polarity = old.polarity)
    (limit : 0 < (s.settings.doors.get d).heldLimit) (due : s.changeIsDue d = true) :
    s.doorSettings d old = s.acceptLevel d := by
  unfold State.doorSettings
  dsimp only
  rw [if_neg (not_not.2 same), if_pos due, acceptLevel_not_held limit (changeIsDue_iff.1 due).1]
  rfl

theorem doorSettings_of_not_due {old : DoorCfg} (same : (s.settings.doors.get d).polarity = old.polarity)
    (quiet : ¬ s.changeIsDue d = true) : s.doorSettings d old = if s.heldIsDue d then s.enterHeld d else s := by
  unfold State.doorSettings
  dsimp only
  rw [if_neg (not_not.2 same), if_neg quiet]

/-- An accepted DOOR entry away from a route changes its door and the ports alone. -/
theorem doorSettings_keeps_depot (depot : s.route.state ≠ .dispatched) (old : DoorCfg) :
    keeps [.doors, .ports] s (s.doorSettings d old) := by
  unfold State.doorSettings
  dsimp only
  split
  · exact (modDoor_keeps s d _).mono (by simp)
  · by_cases due : s.changeIsDue d = true
    · simp only [if_pos due]
      have accepted : keeps [.doors, .ports] s (s.acceptLevel d) := acceptLevel_keeps_depot depot
      split
      · exact accepted.andThen (enterHeld_keeps _ d) (by simp)
      · exact accepted
    · simp only [if_neg due]
      split
      · exact enterHeld_keeps s d
      · exact keeps.refl _ s

theorem enterHeld_door {e : Comp} (other : e ≠ d) : (s.enterHeld d).doors.get e = s.doors.get e := by
  unfold State.enterHeld
  dsimp only
  split <;> simp [State.post, other]

theorem acceptLevel_door {e : Comp} (differs : (s.doors.get d).differs (s.settings.doors.get d) = true)
    (other : e ≠ d) : (s.acceptLevel d).doors.get e = s.doors.get e := by
  obtain ⟨latch, kind, doors⟩ := acceptLevel_doors rfl differs
  rw [doors, get_modAt, if_neg other]

theorem doorSettings_door {e : Comp} (other : e ≠ d) (old : DoorCfg) :
    (s.doorSettings d old).doors.get e = s.doors.get e := by
  unfold State.doorSettings
  dsimp only
  split
  · simp [other]
  · by_cases due : s.changeIsDue d = true
    · simp only [if_pos due]
      split
      · rw [enterHeld_door other, acceptLevel_door (changeIsDue_iff.1 due).1 other]
      · exact acceptLevel_door (changeIsDue_iff.1 due).1 other
    · simp only [if_neg due]
      split
      · exact enterHeld_door other
      · rfl

end Door

theorem watchSettings_eq (s : State) (c : Comp) (old : CompCfg) : s.watchSettings c old = s.modWatch c fun w => { w with
    armed := w.armed || (old.mode == .every && (s.settings.comps.get c).mode == .firstOnly) } := by
  unfold State.watchSettings
  by_cases turned : old.mode = .every ∧ (s.settings.comps.get c).mode = .firstOnly
  · obtain ⟨before, after⟩ := turned
    rw [if_pos ⟨before, after⟩]
    simp [before, after]
  · have off : (old.mode == .every && (s.settings.comps.get c).mode == .firstOnly) = false := by
      simpa using turned
    rw [if_neg turned, off]
    simp only [Bool.or_false]
    unfold State.modWatch
    rw [modAt_eq_self _ _ _ rfl]

/-! ### Starts (R180) -/

theorem beginStart_begun (s : State) (cause : StartCause) : startBegun cause s (s.beginStart cause) := by
  refine ⟨rfl, rfl, rfl, rfl, rfl, fun p => ?_, fun i => ?_, fun c => ⟨?_, ?_, ?_, ?_⟩⟩
  all_goals simp only [State.beginStart, get_mapV, get_replicate] <;> rfl

end Sys2Proof.Machine

namespace Sys2Proof.Proofs
open Sys2Proof.Machine

/-- Settles O17: the two clock requests. -/
theorem clock : Obligations.Clock := by
  intro p tag now s
  refine ⟨fun takes => exec_answered rfl takes rfl, fun takes => ?_⟩
  by_cases away : s.route.state = .dispatched
  · rw [if_pos away]
    refine exec_answered rfl takes ?_
    change actClockSet now s = _
    unfold actClockSet
    rw [if_pos away]
  · rw [if_neg away]
    refine exec_answered rfl takes ?_
    change actClockSet now s = _
    unfold actClockSet
    rw [if_neg away]
    rfl

/-- Settles O19: an accepted entry, group by group. -/
theorem settingsPutEffect : Obligations.SettingsPutEffect := by
  intro p tag group index entry s r new takes length names depot free unstarted put unused base
  refine ⟨base.applyEntry p r s.settings, r.after, ?_, ?_⟩
  · rw [exec_taken rfl takes]
    refine congrArg (fun x => Host.Outcome.next (State.respond p 0x08 0x88 tag x)) ?_
    change actSettingsPut p group index entry s = _
    unfold actSettingsPut
    rw [if_neg (by simp [length]), names]
    dsimp only
    rw [if_neg depot, if_neg (by simp [free, unstarted]), put]
    dsimp only
    rw [if_neg (by simp [unused])]
  cases r with
  | general =>
    refine ⟨rfl, eq_withChanged (recomputePeriod_keeps base), ?_⟩
    have scanned := recomputePeriod_keeps base
    exact periodWorkedOut_of (u := base) rfl rfl (congrArg Settings.general (scanned .settings (by simp)))
      (scanned .bids (by simp))
  | port q => exact ⟨rfl, rfl⟩
  | probe i => exact ⟨rfl, rfl⟩
  | cls k => exact ⟨rfl, rfl⟩
  | compartment c =>
    refine ⟨rfl, ?_⟩
    intro cfg
    change State.defrostSettings (base.watchSettings c (s.settings.comps.get c)) c = _
    rw [watchSettings_eq]
    rfl
  | door d =>
    refine ⟨rfl, ?_⟩
    obtain ⟨x, range, -, made⟩ := (put_door d).1 put
    have limit : 0 < (base.settings.doors.get d).heldLimit := by
      have : 10 ≤ x.heldLimit := by simp only [DoorCfg.inRange, decide_eq_true_eq] at range; omega
      change 0 < (new.doors.get d).heldLimit
      rw [made, get_setAt_self]
      omega
    split
    next turned => exact doorSettings_of_new_polarity turned
    next same =>
    have same : (base.settings.doors.get d).polarity = (s.settings.doors.get d).polarity := not_not.1 same
    intro x cfg isOpen differs due
    have opens : x.inputOpen cfg = isOpen := Door.inputOpen_eq _ _
    have differs_eq : x.differs cfg = differs := by
      rw [Door.differs_eq, opens] <;> simp only [differs] <;> cases x.state <;> rfl
    have due_iff : base.changeIsDue d = true ↔ due := by
      rw [changeIsDue_iff]
      exact and_congr (by rw [← differs_eq]) Iff.rfl
    have effect : base.applyEntry p (.door d) s.settings = base.doorSettings d (s.settings.doors.get d) := rfl
    refine ⟨eq_withChanged (doorSettings_keeps_depot (s := base) (d := d) depot _),
      fun e other => doorSettings_door other _, fun isDue => ?_, fun quiet y isOpened period reached => ?_,
      fun quiet below => ?_⟩
    · have accepts : base.changeIsDue d = true := due_iff.2 isDue
      rw [effect, doorSettings_of_due same limit accepts]
      obtain ⟨latch, kind, doors⟩ := acceptLevel_doors (s := base) opens (changeIsDue_iff.1 accepts).1
      have door := congrArg (fun v => v.get d) doors
      simp only [get_modAt, if_true] at door
      refine ⟨?_, by rw [door], by rw [door], by rw [door]⟩
      change Host.Outcome.next (Machine.acceptedChange d base) = _
      unfold Machine.acceptedChange
      rw [if_pos ⟨by simp [base, takes.1], accepts⟩]
    · rw [effect, doorSettings_of_not_due same fun h => quiet (due_iff.1 h),
        heldIsDue_of (s := base) isOpened period, if_pos (by simpa using reached)]
      exact enterHeld_of (s := base) period
    · rw [effect, doorSettings_of_not_due same fun h => quiet (due_iff.1 h),
        heldIsDue_false (s := base) fun y isOpened period => below isOpened y period]
      rfl

/-- Settles O20: the end of a store write, and RESTART with its start. -/
theorem storeWriteAndRestart : Obligations.StoreWriteAndRestart := by
  refine ⟨fun s on writes => ?_, fun p tag s => ⟨fun takes => ?_, fun ready => ⟨restartStart s, rfl, ?_⟩⟩⟩
  · change Host.Outcome.next (Machine.storeWriteCompletion s) = _
    unfold Machine.storeWriteCompletion
    rw [if_pos ⟨on, writes⟩]
  · rw [exec_taken rfl takes]
    change Host.Outcome.next (State.respond p 0x09 0x89 tag (actRestart s)) = _
    unfold actRestart
    split <;> rfl
  · unfold restartStart
    by_cases due : s.restartDue = true
    · rw [if_pos due, if_pos ⟨ready, due⟩]
      exact beginStart_begun s .restart
    · rw [if_neg due, if_neg fun h => due h.2]

/-- Settles O22: a full start sets the retained memory afresh, and no claim is there for the assessor. -/
theorem fullStart : Obligations.FullStart := by
  intro s cause starting bad
  change Host.Outcome.next (startReady s) = _
  unfold startReady State.setRetained
  rw [starting]
  dsimp only
  rw [if_neg (by simp [bad]), State.startAssessor_of_no_lodged (fun c h => by cases h)]
  have refilled : mapV (fun a : Allowance => { a with refill := 0 })
      (mapV (fun c => Allowance.fresh c.poolMax) s.settings.comps) =
        mapV (fun c => Allowance.fresh c.poolMax) s.settings.comps :=
    table_ext fun c => by simp [Allowance.fresh]
  simp only [State.clearRetained, refilled]
  rfl

/-- Settles O55: the reset state holds no lot, claim, notice or excursion, and the factory settings. -/
theorem resetLawful : Obligations.ResetLawful := by
  have noLot (i : Slot) : State.reset.lots.get i = none := get_replicate _ _
  have noStop (n : StopNo) : State.reset.stops.get n = none := get_replicate _ _
  have watch (c : Comp) : State.reset.watches.get c = Watch.fresh := get_replicate _ _
  have probe (i : Probe) : State.reset.probes.get i = ProbeState.fresh := get_replicate _ _
  refine ⟨?_, ?_, ?_, fun ready => (by cases ready), ?_, ?_, fun c => ?_⟩
  · constructor <;> intro i <;> simp [noLot]
  · refine ⟨Nat.zero_le _, fun i => by simp [noLot], fun n => by simp [noStop], fun c => ?_, fun i => ?_, by decide,
      rfl⟩
    · rw [watch]; exact Nat.zero_le _
    · rw [probe]; exact Nat.zero_le _
  · exact ⟨factory_inRange, factory_inRange, by decide⟩
  · exact ⟨Nat.zero_le _, List.nodup_nil, fun c h => (by cases h), le_rfl, by decide, fun c h => (by cases h),
      fun ready => (by cases ready)⟩
  · exact openStopLaw_of_cleared rfl noStop fun j => get_replicate _ _
  · rw [watch]
    exact fresh_lawful

/-- Settles O21: the two ways to begin a start, and what each supply's loss takes. -/
theorem supplies : Obligations.Supplies := by
  unfold Obligations.Supplies
  intro lost
  have cleared (s : State) : lost s.clearRetained := by
    refine ⟨rfl, rfl, fun i => get_replicate _ _, fun j => get_replicate _ _, fun n => get_replicate _ _, rfl, rfl, rfl,
      fun i => ?_, fun c => ⟨get_replicate _ _, ?_, ?_⟩⟩
    all_goals simp only [State.clearRetained, get_mapV, get_replicate] <;> rfl
  refine ⟨fun s => ⟨fun off => ⟨powerUp s, rfl, ?_⟩, fun on => ⟨rstnReset s, rfl, ?_⟩⟩,
    fun s => ⟨fun on => ⟨mainPowerLoss s, rfl, ?_⟩, fun on => ?_, fun off => ⟨backupSupplyLoss s, rfl, ?_⟩⟩⟩
  · unfold powerUp
    rw [if_pos off]
    exact beginStart_begun s .powerUp
  · unfold rstnReset
    rw [if_neg on]
    by_cases idle : s.storeWrite = false
    · rw [if_pos idle, if_neg (by simp [idle])]
      exact beginStart_begun s .powerUp
    · rw [if_neg idle, if_pos (by simpa using idle)]
      refine ⟨_, ?_, beginStart_begun _ .powerUp⟩
      cases Config.interruptedWrite s.draws with
      | before => exact .inl rfl
      | after => exact .inr (.inl rfl)
      | failing => exact .inr (.inr rfl)
  · unfold mainPowerLoss
    rw [if_neg on]
    have contents (st : Store) (writes : Bool) :
        (if writes then { st with valid := false } else st : Store).contents = st.contents := by
      cases writes <;> rfl
    have valid (st : Store) (writes : Bool) :
        (if writes then { st with valid := false } else st : Store).valid = (st.valid && !writes) := by
      cases writes <;> simp
    have ports (p : Port) (v : Vector PortState 3) : ((mapV (fun ps : PortState => { ps with
        rx := .hunting, request := none, tx := none }) v).get p).request = none ∧ ((mapV (fun ps : PortState =>
          { ps with rx := .hunting, request := none, tx := none }) v).get p).tx = none := by
      simp
    by_cases marker : s.marker = true
    · rw [if_pos marker]
      exact ⟨rfl, rfl, rfl, rfl, rfl, rfl, rfl, rfl, rfl, contents s.store s.storeWrite,
        valid s.store s.storeWrite, fun p => ports p _, fun _ => rfl,
        fun bad => absurd marker (by simp [bad])⟩
    · rw [if_neg marker]
      exact ⟨rfl, rfl, rfl, rfl, rfl, rfl, rfl, rfl, rfl, contents s.store s.storeWrite,
        valid s.store s.storeWrite, fun p => ports p _, fun good => absurd good marker,
        fun _ => cleared s⟩
  · change Host.Outcome.next (backupSupplyLoss s) = _
    unfold backupSupplyLoss
    rw [if_neg on]
  · unfold backupSupplyLoss
    rw [if_pos off]
    exact ⟨rfl, cleared s, rfl, rfl, off⟩

end Sys2Proof.Proofs
end

section
/-!
PROOF. A start that keeps the retained memory (R64, R83, R120, R139, R156, R180): each table after it.
-/
namespace Sys2Proof.Machine

variable {s : State}

/-- State `t` is `s` after part 3 of a start that keeps the retained memory. -/
structure Retained (resumed : Bool) (s t : State) : Prop where
  frame : t = { s with defrosts := t.defrosts, bases := t.bases, lots := t.lots, stops := t.stops,
                       handoffs := t.handoffs, claims := t.claims }
  defrosts : ∀ c : Comp, t.defrosts.get c =
    { s.defrosts.get c with pool := min (s.defrosts.get c).pool (s.settings.comps.get c).poolMax }
  bases : ∀ c : Comp, t.bases.get c = { s.bases.get c with base := (s.bases.get c).base.map fun _ => s.seconds }
  lots : ∀ i : Slot, t.lots.get i = (s.lots.get i).map fun l =>
    gapCharged resumed s.bases s.seconds (l.backOnBoard (s.cartonsOffered (List.finRange 128) i))
  stops : ∀ n : StopNo, t.stops.get n = (s.stops.get n).map fun st =>
    if s.route.openStop = some n then { st with timer := limitTimer st.limit } else st
  handoffs : ∀ j : HIndex, t.handoffs.get j = (s.handoffs.get j).map (Handoff.resolved s.seconds)
  claims : t.claims = s.claims.map Claim.atStart

theorem restartStopTimer_frame (s : State) : s.restartStopTimer = { s with stops := s.restartStopTimer.stops } :=
  eq_withChanged (restartStopTimer_keeps s)

theorem restartStopTimer_stop (n : StopNo) : s.restartStopTimer.stops.get n = (s.stops.get n).map fun st =>
    if s.route.openStop = some n then { st with timer := limitTimer st.limit } else st := by
  unfold State.restartStopTimer
  cases named : s.route.openStop with
  | none => simp
  | some m =>
    by_cases same : n = m
    · subst same; simp
    · simp [same, Ne.symm same]

theorem keepRetained_retained (s : State) (resumed : Bool) : Retained resumed s (s.keepRetained resumed) := by
  have resolved : Resolved s.clampPools s.clampPools.resolveAll (List.finRange 128) := resolve_list _ _
  unfold State.keepRetained
  revert resolved
  generalize s.clampPools.resolveAll = u
  intro resolved
  have charged : GapsCharged resumed { u with claims := u.claims.map Claim.atStart }
      (State.chargeGaps resumed { u with claims := u.claims.map Claim.atStart }) (List.finRange 4) :=
    chargeGap_list resumed _ _ (List.nodup_finRange 4)
  revert charged
  dsimp only
  generalize State.chargeGaps resumed { u with claims := u.claims.map Claim.atStart } = v
  intro charged
  have frame_u := resolved.frame
  have frame_v := charged.frame
  have frame_w := restartStopTimer_frame v
  refine ⟨by rw [frame_w, frame_v, frame_u]; rfl, fun c => ?_, fun c => ?_, fun i => ?_, fun n => ?_, fun j => ?_, ?_⟩
  · rw [frame_w, frame_v, frame_u]
    simp [State.clampPools]
  · rw [frame_w]
    dsimp only
    rw [charged.bases, if_pos (List.mem_finRange c), frame_u]
    rfl
  · rw [frame_w]
    dsimp only
    rw [charged.lots]
    dsimp only
    rw [resolved.lots, Option.map_map, frame_u]
    refine congrFun (congrArg Option.map (funext fun l => ?_)) _
    exact if_pos (List.mem_finRange _)
  · rw [restartStopTimer_stop, frame_v, frame_u]
    rfl
  · rw [frame_w, frame_v]
    dsimp only
    rw [resolved.hand]
    refine congrFun (congrArg Option.map (funext fun h => ?_)) _
    exact if_pos (List.mem_finRange _)
  · rw [frame_w, frame_v, frame_u]
    rfl

end Sys2Proof.Machine

namespace Sys2Proof.Proofs
open Sys2Proof.Machine

/-- Settles O23: what part 3 of the start leaves, and then the start of the assessor. -/
theorem keptStart : Obligations.KeptStart := by
  intro s cause starting good distinct
  have retained := keepRetained_retained s (cause == .powerUp)
  have ready : startReady s = State.startAssessor { s.keepRetained (cause == .powerUp) with
      phase := .ready
      scanner := { (s.keepRetained (cause == .powerUp)).scanner with
        nextDue := (s.keepRetained (cause == .powerUp)).scanner.elapsed }
      defrosts := mapV (fun a => { a with refill := 0 }) (s.keepRetained (cause == .powerUp)).defrosts } := by
    unfold startReady State.setRetained
    rw [starting]
    dsimp only
    rw [if_pos good]
  revert retained ready
  generalize s.keepRetained (cause == .powerUp) = v
  intro retained ready
  obtain ⟨frame, numbers, unlodged⟩ := startAssessor_frame { v with
      phase := .ready, scanner := { v.scanner with nextDue := v.scanner.elapsed },
      defrosts := mapV (fun a => { a with refill := 0 }) v.defrosts }
  refine ⟨startReady s, rfl, ?_, fun c => ⟨?_, ?_⟩, fun j => ?_, fun n => ?_, fun i l holds => ?_, fun i free => ?_,
    ?_, ?_, fun c mem dead => ?_⟩
  all_goals rw [ready, frame]
  · rw [retained.frame]
  · simp [retained.defrosts]
  · exact retained.bases c
  · refine (retained.handoffs j).trans (congrFun (congrArg Option.map (funext fun h => ?_)) _)
    unfold Handoff.resolved
    cases h.state <;> rfl
  · exact retained.stops n
  · refine (retained.lots i).trans ?_
    rw [holds, Option.map_some]
    generalize s.cartonsOffered (List.finRange 128) i = n
    unfold gapCharged
    rw [backOnBoard_accounting]
    unfold Lot.backOnBoard
    dsimp only
    cases (s.bases.get l.comp).base with
    | none => rfl
    | some b => cases cause <;> rfl
  · refine (retained.lots i).trans ?_
    rw [free, Option.map_none]
  · refine frame.symm.trans (congrArg State.startAssessor ?_)
    have assessor : v.assessor = s.assessor := by rw [retained.frame]
    rw [← assessor]
    change _ = { v with
      phase := .ready, scanner := _, defrosts := _, claims := s.claims.map Claim.atStart }
    rw [← retained.claims]
  · refine numbers.trans ?_
    change v.claims.map Claim.number = _
    rw [retained.claims, List.map_map]
    exact congrFun (congrArg List.map (funext Claim.atStart_number)) _
  · have idle : c.state ≠ .lodged ∧ c.state ≠ .assessing := by simpa [Claim.live] using dead
    have same : c.atStart = c := if_neg idle.2
    refine unlodged ?_ c ?_ idle.1
    · change (v.claims.map Claim.number).Nodup
      rw [retained.claims, List.map_map, show Claim.number ∘ Claim.atStart = Claim.number from
        funext Claim.atStart_number]
      exact distinct
    · change c ∈ v.claims
      rw [retained.claims]
      exact List.mem_map.2 ⟨c, mem, same⟩

end Sys2Proof.Proofs
end

section
/-!
PROOF. Probes, watches and defrosts by request, and the passing of time (sections 1.4, 2.5, 4.2, 4.3, 11.5).
-/
namespace Sys2Proof.Machine

variable {s : State}

theorem Watch.out_iff (w : Watch) : w.out = true ↔ w.state = .excursion ∨ w.state = .recovering := by
  simp [Watch.out]

theorem offeredFrom_eq (s : State) (c : Comp) : s.offeredFrom c = s.handoffs.toList.any fun h => h.any fun h =>
    h.state == .offered && (s.lots.get h.slot).any fun l => l.comp == c := by
  unfold State.offeredFrom
  congr 1
  funext o
  cases o with
  | none => rfl
  | some h => cases lot : s.lots.get h.slot <;> simp [lot]

/-! ### Time (log 7) -/

theorem currentStop_isSome (s : State) :
    s.currentStop.isSome = s.route.openStop.any fun m => (s.stops.get m).isSome := by
  unfold State.currentStop
  cases s.route.openStop <;> simp

theorem elapseMs_of_off (off : s.phase = .off) (n : Nat) : s.elapseMs n = s := by
  unfold State.elapseMs
  rw [if_pos off]

theorem elapseMs_of_on (on : s.phase ≠ .off) (n : Nat) : s.elapseMs n = { s with
    doors := mapV (Door.elapse n s.currentStop.isSome) s.doors
    ports := mapV (PortState.elapse n) s.ports
    scanner := { s.scanner with scan := s.scanner.scan.map fun x => { x with age := x.age + n } } } := by
  unfold State.elapseMs
  rw [if_neg on]

theorem secondTimers_of_off (off : s.phase = .off) : s.secondTimers = s := by
  unfold State.secondTimers
  split
  next => rfl
  next starting => exact absurd (off.symm.trans starting) (by simp)
  next ready => exact absurd (off.symm.trans ready) (by simp)

theorem secondTimers_of_starting {cause : StartCause} (starting : s.phase = .starting cause) :
    s.secondTimers = { s with
      doors := mapV Door.second s.doors, scanner := { s.scanner with elapsed := s.scanner.elapsed + 1 } } := by
  unfold State.secondTimers
  split
  next off => exact absurd (starting.symm.trans off) (by simp)
  next => rfl
  next ready => exact absurd (starting.symm.trans ready) (by simp)

theorem secondTimers_of_ready (ready : s.phase = .ready) : s.secondTimers = { s with
    doors := mapV Door.second s.doors
    scanner := { s.scanner with elapsed := s.scanner.elapsed + 1 }
    defrosts := mapV (fun a => { a with refill := a.refill + 1 }) s.defrosts
    stops := mapV (Option.map fun st : Stop => { st with timer := countDown st.timer }) s.stops
    handoffs := mapV (Option.map fun h : Handoff => { h with ack := countDown h.ack }) s.handoffs
    report := s.report.map fun r => { r with timer := countDown r.timer } } := by
  unfold State.secondTimers
  split
  next off => exact absurd (ready.symm.trans off) (by simp)
  next starting => exact absurd (ready.symm.trans starting) (by simp)
  next => rfl

theorem Door.elapse_eq (n : Nat) {stopIsOpen : Bool} {p : Prop} [Decidable p] (stop : stopIsOpen = true ↔ p)
    (d : Door) :
    d.elapse n stopIsOpen = { d with
      candidate := d.candidate.map (· + n)
      openTotal := if d.state = .opened ∨ d.state = .held then d.openTotal + BitVec.ofNat 32 n else d.openTotal
      stopAcc := if (d.state = .opened ∨ d.state = .held) ∧ p then d.stopAcc + n else d.stopAcc } := by
  unfold Door.elapse
  simp only [Bool.and_eq_true, Door.isOpen_iff, stop]

theorem Door.second_eq (d : Door) : d.second = { d with
    period := if d.state = .opened then d.period.map fun x => { x with held := x.held + 1 } else d.period } := by
  unfold Door.second
  split <;> rfl

theorem PortState.elapse_eq (n : Nat) (ps : PortState) : ps.elapse n = { ps with
    rx := match ps.rx with
      | .inFrame bytes silence => .inFrame bytes (silence + n)
      | rx => rx } := by
  unfold PortState.elapse
  cases rx : ps.rx <;> simp [← rx]

theorem advanceSecond_passed (supplied : s.supplied = true) : timePassed (1000 - s.subMs) true s s.advanceSecond := by
  have stop := currentStop_isSome s
  unfold State.advanceSecond
  rw [if_pos supplied]
  generalize 1000 - s.subMs = n
  cases phase : s.phase with
  | off =>
    rw [elapseMs_of_off phase, secondTimers_of_off phase]
    exact ⟨rfl, fun _ => ⟨rfl, rfl, rfl⟩, fun on => absurd phase on, by simp [phase]⟩
  | starting cause =>
    rw [elapseMs_of_on (by simp [phase]), secondTimers_of_starting (by exact phase)]
    refine ⟨rfl, fun off => absurd (phase.symm.trans off) (by simp), fun _ => ⟨fun c => ?_, fun p => ?_, rfl⟩,
      by simp [phase]⟩
    · simp only [get_mapV, Door.second_eq, Door.elapse_eq n (Bool.eq_iff_iff.1 stop), true_and]
    · exact (get_mapV _ _ _).trans (PortState.elapse_eq n _)
  | ready =>
    rw [elapseMs_of_on (by simp [phase]), secondTimers_of_ready (by exact phase)]
    refine ⟨rfl, fun off => absurd (phase.symm.trans off) (by simp), fun _ => ⟨fun c => ?_, fun p => ?_, rfl⟩, ?_⟩
    · simp only [get_mapV, Door.second_eq, Door.elapse_eq n (Bool.eq_iff_iff.1 stop), true_and]
    · exact (get_mapV _ _ _).trans (PortState.elapse_eq n _)
    · rw [if_pos ⟨rfl, phase⟩]
      exact ⟨fun c => get_mapV _ _ _, fun m => get_mapV _ _ _, fun j => get_mapV _ _ _, rfl⟩

theorem elapseMs_passed (n : Nat) : timePassed n false s { s.elapseMs n with subMs := s.subMs + n } := by
  have stop := currentStop_isSome s
  by_cases off : s.phase = .off
  · rw [elapseMs_of_off off]
    exact ⟨rfl, fun _ => ⟨rfl, rfl, rfl⟩, fun on => absurd off on, by simp⟩
  · rw [elapseMs_of_on off]
    refine ⟨rfl, fun h => absurd h off, fun _ => ⟨fun c => ?_, fun p => ?_, rfl⟩, by simp⟩
    · simp only [get_mapV, Door.elapse_eq n (Bool.eq_iff_iff.1 stop), Bool.false_eq_true, false_and, if_false]
    · exact (get_mapV _ _ _).trans (PortState.elapse_eq n _)

theorem supplied_iff : s.supplied = true ↔ s.phase ≠ .off ∨ s.marker = true := by simp [State.supplied]

theorem advanceSecond_of_unsupplied (off : s.phase = .off) (lost : s.marker = false) : s.advanceSecond = s := by
  unfold State.advanceSecond
  rw [if_neg (by simp [supplied_iff, off, lost])]

end Sys2Proof.Machine

namespace Sys2Proof.Proofs
open Sys2Proof.Machine

/-- Settles O25: the fault latch is emptied, and the armed flag is set. -/
theorem probeClearAndWatchRearm : Obligations.ProbeClearAndWatchRearm := by
  refine ⟨fun p tag probe s takes => ?_, fun p tag compartment s takes => ?_⟩
  · by_cases below : probe.toNat < 8
    · rw [dif_pos below]
      refine exec_answered rfl takes ?_
      change actProbeClear probe s = _
      unfold actProbeClear
      rw [indexIn_of_lt below]
      rfl
    · rw [dif_neg below]
      refine exec_answered rfl takes ?_
      change actProbeClear probe s = _
      unfold actProbeClear
      rw [indexIn_eq_none.2 (not_lt.1 below)]
  · by_cases below : compartment.toNat < 4
    · rw [dif_pos below]
      refine exec_answered rfl takes ?_
      change actWatchRearm compartment s = _
      unfold actWatchRearm
      rw [indexIn_of_lt below]
      rfl
    · rw [dif_neg below]
      refine exec_answered rfl takes ?_
      change actWatchRearm compartment s = _
      unfold actWatchRearm
      rw [indexIn_eq_none.2 (not_lt.1 below)]

/-- Settles O27: the six checks, and then the grant. -/
theorem defrostAsk : Obligations.DefrostAsk := by
  refine ⟨fun p tag compartment s high takes => ?_, fun p tag compartment c s index takes => ?_⟩
  · refine exec_answered rfl takes ?_
    change actDefrostAsk compartment s = _
    unfold actDefrostAsk
    rw [indexIn_eq_none.2 high]
  · intro cfg a w offered reason
    have fails : s.askFails c = reason := by
      unfold State.askFails
      simp only [Watch.out_iff, offeredFrom_eq]
      rfl
    cases given : reason with
    | none =>
      refine exec_answered rfl takes ?_
      change actDefrostAsk compartment s = _
      unfold actDefrostAsk
      rw [index]
      dsimp only
      rw [fails.trans given]
      rfl
    | some r =>
      refine exec_answered rfl takes ?_
      change actDefrostAsk compartment s = _
      unfold actDefrostAsk
      rw [index]
      dsimp only
      rw [fails.trans given]
      rfl

/-- Settles O28: the end of a defrost by its state, and the refill. -/
theorem defrostEndAndRefill : Obligations.DefrostEndAndRefill := by
  intro p tag compartment c s
  refine ⟨fun high takes => ?_, fun index takes => ?_, fun ready => ?_⟩
  · refine exec_answered rfl takes ?_
    change actDefrostEnd compartment s = _
    unfold actDefrostEnd
    rw [indexIn_eq_none.2 high]
  · have act : actDefrostEnd compartment s = if (s.defrosts.get c).state = .idle then reply .state s
        else reply .ok (s.modDefrost c fun a => { a with state := .idle })
          (u8 (s.defrosts.get c).state.code ++
            (((s.defrosts.get c).record.map DefrostRecord.bytes).getD (List.replicate 19 0))) := by
      unfold actDefrostEnd
      rw [index]
    by_cases idle : (s.defrosts.get c).state = .idle
    · rw [if_pos idle]
      exact exec_answered rfl takes (act.trans (if_pos idle))
    · rw [if_neg idle]
      refine exec_answered rfl takes ((act.trans (if_neg idle)).trans ?_)
      cases (s.defrosts.get c).record <;> rfl
  · change Host.Outcome.next (Machine.refillExpiry c s) = _
    unfold Machine.refillExpiry
    by_cases due : (s.settings.comps.get c).refillInterval ≤ (s.defrosts.get c).refill
    · rw [if_pos due, if_pos ⟨ready, due⟩]
      rfl
    · rw [if_neg due, if_neg fun h => due h.2]

/-- Settles O54: what passes with a millisecond, and with a second. -/
theorem timePasses : Obligations.TimePasses := by
  refine ⟨fun s => ⟨fun off lost => ?_, fun supplied => ⟨s.advanceSecond, rfl, ?_⟩⟩, fun s none => ?_⟩
  · exact congrArg Host.Outcome.next (advanceSecond_of_unsupplied off lost)
  · exact advanceSecond_passed (supplied_iff.2 supplied)
  · have idle : step s = .next s.idle := by
      unfold step
      rw [none]
    rw [idle]
    refine ⟨fun off lost => ?_, fun supplied => ⟨fun early => ⟨s.idle, rfl, ?_⟩, fun late => ?_⟩⟩
    · unfold State.idle
      rw [if_pos (by simp [State.supplied, off, lost])]
    · unfold State.idle
      rw [if_neg (by simp [supplied_iff.2 supplied]), if_neg (by omega)]
      exact elapseMs_passed 1
    · unfold State.idle
      rw [if_neg (by simp [supplied_iff.2 supplied]), if_pos late]
      rfl

end Sys2Proof.Proofs
end

section
/-!
PROOF. The lot table (chapter 6): which slot a number names, the checks of the requests that change the table, and what
they change.
-/
namespace Sys2Proof.Machine

variable {s : State}

/-! ### The first entry of a table (R88, R91, R125) -/

section First

variable {α : Type} {n : Nat} {i j : Fin n} {before after : List (Fin n)}

theorem mem_before_iff (split : List.finRange n = before ++ i :: after) : j ∈ before ↔ j < i := by
  have sorted : (before ++ i :: after).Pairwise (· < ·) := split ▸ List.pairwise_lt_finRange n
  obtain ⟨-, later, earlier⟩ := List.pairwise_append.1 sorted
  refine ⟨fun mem => earlier j mem i (by simp), fun below => ?_⟩
  have mem : j ∈ before ++ i :: after := split ▸ List.mem_finRange j
  rcases List.mem_append.1 mem with mem | mem
  · exact mem
  · rcases List.mem_cons.1 mem with rfl | mem
    · exact absurd below (lt_irrefl _)
    · exact absurd below (not_lt_of_gt ((List.pairwise_cons.1 later).1 j mem))

/-- The first hit of a search through a table. -/
theorem findSome_finRange {f : Fin n → Option α} {x : α} :
    (List.finRange n).findSome? f = some x ↔ ∃ i, f i = some x ∧ ∀ j, j < i → f j = none := by
  rw [List.findSome?_eq_some_iff]
  constructor
  · rintro ⟨before, i, after, split, hit, misses⟩
    exact ⟨i, hit, fun j below => misses j ((mem_before_iff split).2 below)⟩
  · rintro ⟨i, hit, misses⟩
    obtain ⟨before, after, split⟩ := List.append_of_mem (List.mem_finRange i)
    exact ⟨before, i, after, split, hit, fun j mem => misses j ((mem_before_iff split).1 mem)⟩

theorem find_finRange {f : Fin n → Bool} :
    (List.finRange n).find? f = some i ↔ f i = true ∧ ∀ j, j < i → f j = false := by
  rw [List.find?_eq_some_iff_append]
  constructor
  · rintro ⟨hit, before, after, split, misses⟩
    exact ⟨hit, fun j below => by simpa using misses j ((mem_before_iff split).2 below)⟩
  · rintro ⟨hit, misses⟩
    obtain ⟨before, after, split⟩ := List.append_of_mem (List.mem_finRange i)
    exact ⟨hit, before, after, split, fun j mem => by simpa using misses j ((mem_before_iff split).1 mem)⟩

end First

theorem lotNamed_iff {number : Word} {i : Slot} {l : Lot} : s.lotNamed number = some (i, l) ↔
    s.lots.get i = some l ∧ l.number = number ∧
      ∀ (j : Slot) (m : Lot), j < i → s.lots.get j = some m → m.number ≠ number := by
  unfold State.lotNamed
  rw [findSome_finRange]
  have hit (k : Slot) (m : Lot) : s.lots.get k = some m →
      ((match s.lots.get k with
        | some l => if l.number = number then some (k, l) else none
        | none => none) = some (i, l) ↔ m.number = number ∧ k = i ∧ m = l) := by
    intro holds
    simp [holds]
  have miss (k : Slot) : (match s.lots.get k with
      | some l => if l.number = number then some (k, l) else none
      | none => none) = none ↔ ∀ m, s.lots.get k = some m → m.number ≠ number := by
    cases s.lots.get k <;> simp
  constructor
  · rintro ⟨k, found, misses⟩
    cases holds : s.lots.get k with
    | none => simp [holds] at found
    | some m =>
      obtain ⟨number, rfl, rfl⟩ := (hit k m holds).1 found
      exact ⟨holds, number, fun j m below => (miss j).1 (misses j below) m⟩
  · rintro ⟨holds, number, misses⟩
    exact ⟨i, (hit i l holds).2 ⟨number, rfl, rfl⟩, fun j below => (miss j).2 fun m => misses j m below⟩

theorem lotNamed_isSome (number : Word) : (s.lotNamed number).isSome = true ↔
    s.lots.toList.any (fun o => o.any fun l => l.number == number) = true := by
  rw [any_toList, ← not_iff_not, Bool.not_eq_true, Option.isSome_eq_false_iff, Option.isNone_iff_eq_none, lotNamed_none]
  simp only [not_exists, Bool.not_eq_true]
  refine forall_congr' fun i => ?_
  cases s.lots.get i <;> simp

theorem freeSlot_some {i : Slot} : s.freeSlot = some i ↔ s.lots.get i = none ∧ ∀ j, j < i → s.lots.get j ≠ none := by
  unfold State.freeSlot
  rw [find_finRange]
  simp [← Option.isSome_iff_ne_none]

theorem freeSlot_isNone : s.freeSlot = none ↔ s.lots.toList.all Option.isSome = true := by
  rw [freeSlot_eq_none, all_toList]
  simp [← Option.isSome_iff_ne_none]

/-! ### The checks (R91, R93, R94, R97) -/

theorem half_eq_zero (q : Half) : q = 0 ↔ q.toNat = 0 := by bv_omega

theorem actLotLoad_status (lot : Word) (cls compartment : Byte) (quantity : Half) :
    (actLotLoad lot cls compartment quantity s).status =
      if s.route.state ≠ .loading then .state
      else if lot = 0 ∨ 16 ≤ cls.toNat ∨ 4 ≤ compartment.toNat ∨ quantity = 0 then .range
      else if s.lots.toList.any (fun o => o.any fun l => l.number == lot) = true then .duplicate
      else if s.lots.toList.all Option.isSome = true then .full
      else .ok := by
  unfold actLotLoad
  by_cases elsewhere : s.route.state ≠ .loading
  · rw [if_pos elsewhere, if_pos elsewhere]
    rfl
  rw [if_neg elsewhere, if_neg elsewhere]
  by_cases classed : cls.toNat < 16
  · by_cases placed : compartment.toNat < 4
    · rw [indexIn_of_lt classed, indexIn_of_lt placed]
      dsimp only
      by_cases range : lot = 0 ∨ quantity = 0
      · rw [if_pos range, if_pos (by tauto)]
        rfl
      obtain ⟨nonzero, some⟩ := not_or.1 range
      have inRange : ¬ (lot = 0 ∨ 16 ≤ cls.toNat ∨ 4 ≤ compartment.toNat ∨ quantity = 0) := by
        simp only [not_or, not_le]
        exact ⟨nonzero, classed, placed, some⟩
      rw [if_neg range, if_neg inRange]
      simp only [← lotNamed_isSome, ← freeSlot_isNone]
      split
      · rfl
      · cases s.freeSlot <;> simp [reply]
    · rw [indexIn_of_lt classed, indexIn_eq_none.2 (not_lt.1 placed), if_pos (by omega)]
      rfl
  · rw [indexIn_eq_none.2 (not_lt.1 classed), if_pos (by omega)]
    rfl

theorem actLotMove_status (lot : Word) (compartment : Byte) : (actLotMove lot compartment s).status =
    if lot = 0 ∨ 4 ≤ compartment.toNat then .range
    else match s.lotNamed lot with
      | none => .unknown
      | some (_, l) =>
        if (l.state = .stowed ∨ l.state = .onBoard) ∧ l.qty.offered = 0 then
          if (indexIn 4 compartment).any (fun c => (s.settings.comps.get c).enabled) = true then .ok else .range
        else .state := by
  unfold actLotMove
  by_cases placed : compartment.toNat < 4
  · rw [indexIn_of_lt placed]
    dsimp only
    by_cases zero : lot = 0
    · rw [if_pos zero, if_pos (.inl zero)]
      rfl
    rw [if_neg zero, if_neg (not_or.2 ⟨zero, not_le.2 placed⟩)]
    cases s.lotNamed lot with
    | none => rfl
    | some x =>
      dsimp only
      by_cases stands : (x.2.state = .stowed ∨ x.2.state = .onBoard) ∧ x.2.qty.offered = 0
      · rw [if_neg (not_not.2 stands), if_pos stands, Option.any_some]
        cases (s.settings.comps.get ⟨compartment.toNat, placed⟩).enabled <;> rfl
      · rw [if_pos stands, if_neg stands]
        rfl
  · rw [indexIn_eq_none.2 (not_lt.1 placed), if_pos (.inr (not_lt.1 placed))]
    rfl

theorem actLotWriteOff_status (lot : Word) (quantity : Half) : (actLotWriteOff lot quantity s).status =
    if lot = 0 then .range
    else match s.lotNamed lot with
      | none => .unknown
      | some (_, l) =>
        if l.state = .stowed ∨ l.state = .onBoard then
          if 1 ≤ quantity.toNat ∧ quantity.toNat ≤ l.qty.onBoard then .ok else .range
        else .state := by
  unfold actLotWriteOff
  by_cases zero : lot = 0
  · rw [if_pos zero, if_pos zero]
    rfl
  rw [if_neg zero, if_neg zero]
  cases s.lotNamed lot with
  | none => rfl
  | some x =>
    dsimp only
    by_cases stands : x.2.state = .stowed ∨ x.2.state = .onBoard
    · have short : quantity = 0 ∨ x.2.qty.onBoard < quantity.toNat ↔
          ¬ (1 ≤ quantity.toNat ∧ quantity.toNat ≤ x.2.qty.onBoard) := by
        rw [half_eq_zero]
        omega
      rw [if_neg (not_not.2 stands), if_pos stands]
      by_cases enough : 1 ≤ quantity.toNat ∧ quantity.toNat ≤ x.2.qty.onBoard
      · rw [if_pos enough, if_neg fun h => short.1 h enough]
        rfl
      · rw [if_neg enough, if_pos (short.2 enough)]
        rfl
    · rw [if_pos stands, if_neg stands]
      rfl

theorem windowRuns_eq (k : ClassCfg) (now : Time) (h : Handoff) : h.windowRuns k now =
    (h.state == .settled && h.settleTime.any fun t => decide (span t now ≤ k.window * 3600)) := by
  unfold Handoff.windowRuns ClassCfg.windowSecs
  cases h.settleTime <;> rfl

theorem readFlag_eq_none {b : Byte} : readFlag b = none ↔ 2 ≤ b.toNat := by
  unfold readFlag
  by_cases off : b = 0
  · simp [off]
  by_cases on : b = 1
  · simp [on]
  simp only [off, on, if_false, true_iff]
  bv_omega

theorem retirable_iff (s : State) (l : Lot) :
    ¬ (s.route.state ≠ .dispatched ∧ (l.state = .depleted ∨ l.state = .returned)) ↔
      s.route.state = .dispatched ∨ ¬ (l.state = .depleted ∨ l.state = .returned) := by
  tauto

theorem anyWindow_eq (s : State) (l : Lot) : (l.handoffs.any fun j => match s.handoffs.get j with
      | some h => h.windowRuns (s.settings.classes.get l.cls) s.seconds
      | none => false) = l.handoffs.any fun j => (s.handoffs.get j).any fun h => h.state == .settled &&
        h.settleTime.any fun t => decide (span t s.seconds ≤ (s.settings.classes.get l.cls).window * 3600) := by
  congr 1
  funext j
  cases s.handoffs.get j with
  | none => rfl
  | some h => exact windowRuns_eq _ _ _

/-- What LOT_RETIRE answers once its operands are in range. -/
theorem actLotRetire_named {lot : Word} {force : Byte} {forced : Bool} (flag : readFlag force = some forced)
    (nonzero : lot ≠ 0) {i : Slot} {l : Lot} (named : s.lotNamed lot = some (i, l)) :
    actLotRetire lot force s =
      if s.route.state = .dispatched ∨ ¬ (l.state = .depleted ∨ l.state = .returned) then reply .state s
      else if s.claims.any (fun c => l.handoffs.contains c.handoff &&
          (c.state == .lodged || c.state == .assessing)) = true then reply .inUse s
      else if forced = false ∧ l.handoffs.any (fun j => (s.handoffs.get j).any fun h => h.state == .settled &&
          h.settleTime.any fun t => decide (span t s.seconds ≤ (s.settings.classes.get l.cls).window * 3600)) = true
        then reply .windowOpen s
      else reply .ok (s.retire i l) (u8 i.val ++ u8 l.handoffs.length ++ u8 (s.claims.countP (Claim.ofLot l))) := by
  unfold actLotRetire
  rw [flag]
  dsimp only
  rw [if_neg nonzero, named]
  simp only [retirable_iff, ← anyWindow_eq]
  rfl

theorem actLotRetire_status (lot : Word) (force : Byte) : (actLotRetire lot force s).status =
    if lot = 0 ∨ 2 ≤ force.toNat then .range
    else match s.lotNamed lot with
      | none => .unknown
      | some (_, l) =>
        if s.route.state = .dispatched ∨ ¬ (l.state = .depleted ∨ l.state = .returned) then .state
        else if s.claims.any (fun c => l.handoffs.contains c.handoff &&
            (c.state == .lodged || c.state == .assessing)) = true then .inUse
        else if force = 0 ∧ l.handoffs.any (fun j => (s.handoffs.get j).any fun h => h.state == .settled &&
            h.settleTime.any fun t => decide (span t s.seconds ≤ (s.settings.classes.get l.cls).window * 3600)) = true
          then .windowOpen
        else .ok := by
  cases flag : readFlag force with
  | none =>
    unfold actLotRetire
    rw [flag, if_pos (.inr (readFlag_eq_none.1 flag))]
    rfl
  | some forced =>
    have range : ¬ 2 ≤ force.toNat := fun high => by simp [readFlag_eq_none.2 high] at flag
    have off : forced = false ↔ force = 0 := by
      have spelled := readFlag_eq_some.1 flag
      simp only [Machine.flag, List.cons.injEq, and_true] at spelled
      cases forced <;> simp [← spelled]
    by_cases zero : lot = 0
    · unfold actLotRetire
      rw [flag, if_pos (.inl zero)]
      dsimp only
      rw [if_pos zero]
      rfl
    rw [if_neg (not_or.2 ⟨zero, range⟩)]
    cases named : s.lotNamed lot with
    | none =>
      unfold actLotRetire
      rw [flag]
      dsimp only
      rw [if_neg zero, named]
      rfl
    | some x =>
      rw [actLotRetire_named flag zero named]
      simp only [off]
      split_ifs <;> rfl

/-! ### The report slot (R168 to R170, R184) -/

/-- The bits of a handoff summary's flags. -/
theorem summaryFlags (a c u n t f : Bool) (e : Option EReason) :
    let flags : Byte := BitVec.ofNat 8 ((if a then 128 else 0) + (if c then 64 else 0) + eBits e + (if u then 8 else 0)
      + (if n then 4 else 0) + (if t then 2 else 0) + (if f then 1 else 0))
    flags.getLsbD 7 = a ∧ flags.getLsbD 6 = c ∧ flags.getLsbD 5 = e.isSome ∧
      flags.getLsbD 4 = (e == some .copyMismatch) ∧ flags.getLsbD 3 = u ∧ flags.getLsbD 2 = n ∧
      flags.getLsbD 1 = t ∧ flags.getLsbD 0 = f := by
  rcases e with - | ⟨- | -⟩ <;> revert a c u n t f <;> decide

section Report

variable {p : Port} {lot : Word} {page : Byte} {r : Report}

theorem actReportLot_unnamed (nonzero : lot ≠ 0) (free : s.report = none) (unnamed : s.lotNamed lot = none) :
    actReportLot p lot page s = reply .unknown s := by
  unfold actReportLot
  rw [if_neg nonzero, free]
  dsimp only
  rw [unnamed]

theorem actReportLot_free (nonzero : lot ≠ 0) (free : s.report = none) {i : Slot} {l : Lot}
    (named : s.lotNamed lot = some (i, l)) :
    actReportLot p lot page s =
      reply .pending { s with report := some (s.latchReport p i l) } (u8 (s.latchReport p i l).pages) := by
  unfold actReportLot
  rw [if_neg nonzero, free]
  dsimp only
  rw [named]

theorem actReportLot_composing (nonzero : lot ≠ 0) (slot : s.report = some r) (held : r.holder = p ∧ r.lot = lot)
    (composing : r.timer = none) : actReportLot p lot page s = reply .pending s (u8 r.pages) := by
  unfold actReportLot
  rw [if_neg nonzero, slot]
  dsimp only
  rw [if_pos held, composing]

theorem actReportLot_ready (nonzero : lot ≠ 0) (slot : s.report = some r) (held : r.holder = p ∧ r.lot = lot)
    {n : Nat} (ready : r.timer = some n) : actReportLot p lot page s =
      if r.pages ≤ page.toNat then reply .range s
      else reply .ok (if page.toNat + 1 = r.pages then { s with report := none } else s) (r.page page.toNat) := by
  have last : page.toNat = r.pages - 1 ↔ page.toNat + 1 = r.pages := by
    unfold Report.pages
    omega
  unfold actReportLot
  rw [if_neg nonzero, slot]
  dsimp only
  rw [if_pos held, ready]
  simp only [last]
  split_ifs <;> rfl

theorem actReportLot_busy (nonzero : lot ≠ 0) (slot : s.report = some r) (other : ¬ (r.holder = p ∧ r.lot = lot)) :
    actReportLot p lot page s = reply .busy s [if r.timer = none then 1 else 2] := by
  unfold actReportLot
  rw [if_neg nonzero, slot]
  dsimp only
  rw [if_neg other]
  cases r.timer <;> rfl

end Report

end Sys2Proof.Machine

namespace Sys2Proof.Proofs
open Sys2Proof.Machine

/-- Settles O29: the four requests' checks, and the slot that a number names. -/
theorem lotOrder : Obligations.LotOrder := by
  refine ⟨fun s number => ⟨fun i l => lotNamed_iff, lotNamed_none⟩,
    fun p tag lot cls compartment force quantity s => ⟨fun takes => ?_, fun takes => ?_, fun takes => ?_,
      fun takes => ?_⟩⟩
  · exact answersWith_of_status rfl takes (actLotLoad_status lot cls compartment quantity)
  · exact answersWith_of_status rfl takes (actLotMove_status lot compartment)
  · exact answersWith_of_status rfl takes (actLotWriteOff_status lot quantity)
  · exact answersWith_of_status rfl takes (actLotRetire_status lot force)

/-- Settles O30: a lot that passes every check enters the first FREE slot. -/
theorem lotLoad : Obligations.LotLoad := by
  intro p tag lot cls compartment quantity k c i s takes loading nonzero some classed placed fresh free taken
  refine exec_answered rfl takes ?_
  change actLotLoad lot cls compartment quantity s = _
  unfold actLotLoad
  rw [if_neg (not_not.2 loading), classed, placed]
  dsimp only
  rw [if_neg (not_or.2 ⟨nonzero, some⟩), lotNamed_none.2 fresh, freeSlot_some.2 ⟨free, taken⟩]
  rfl

/-- Settles O31: a move, and a write-off with its judgement. -/
theorem lotMoveAndWriteOff : Obligations.LotMoveAndWriteOff := by
  intro p tag lot compartment quantity i l s nonzero named stands
  have holds : s.lots.get i = some l := (lotNamed_some named).1
  refine ⟨fun c takes placed quiet enabled => ?_, fun takes some enough => ?_⟩
  · refine exec_answered rfl takes ?_
    change actLotMove lot compartment s = _
    unfold actLotMove
    rw [placed]
    dsimp only
    rw [if_neg nonzero, named]
    dsimp only
    rw [if_neg (not_not.2 ⟨stands, quiet⟩), if_neg (by simp [enabled]), modLot_some _ holds]
    rfl
  · intro left state
    refine exec_answered rfl takes ?_
    change actLotWriteOff lot quantity s = _
    have moved : (l.move (Quantities.writeOff quantity.toNat)).judge = { l with
        qty := { l.qty with onBoard := left, writtenOff := l.qty.writtenOff + quantity.toNat }, state := state } := by
      unfold Lot.judge Lot.move
      rw [writeOff_enough enough]
      dsimp only
      by_cases emptied : left = 0 ∧ l.qty.offered = 0
      · rw [if_pos emptied, show state = .depleted from if_pos emptied]
      · rw [if_neg emptied, show state = l.state from if_neg emptied]
    unfold actLotWriteOff
    rw [if_neg nonzero, named]
    dsimp only
    rw [if_neg (not_not.2 stands), if_neg (by rw [half_eq_zero]; omega), moved, modLot_some _ holds]
    rfl

/-- Settles O32: what a retired lot takes with it. -/
theorem lotRetire : Obligations.LotRetire := by
  intro p tag lot force i l s takes nonzero window named away ended settled
  refine ⟨s.retire i l, exec_answered rfl takes ?_, rfl, rfl, fun j => get_freeHandoffs _ _ _, rfl⟩
  change actLotRetire lot force s = _
  have live : ¬ s.claims.any (fun c => l.handoffs.contains c.handoff &&
      (c.state == .lodged || c.state == .assessing)) = true := by
    simp only [List.any_eq_true, not_exists, not_and, Bool.and_eq_true, List.contains_iff_mem, Bool.or_eq_true,
      beq_iff_eq]
    intro c mem on
    rcases settled c mem on with h | h <;> simp [h]
  have retires (forced : Bool) (flag : readFlag force = some forced) (closed : ¬ (forced = false ∧
      l.handoffs.any (fun j => (s.handoffs.get j).any fun h => h.state == .settled && h.settleTime.any fun t =>
        decide (span t s.seconds ≤ (s.settings.classes.get l.cls).window * 3600)) = true)) :
      actLotRetire lot force s = reply .ok (s.retire i l)
        (u8 i.val ++ u8 l.handoffs.length ++ u8 (s.claims.countP (Claim.ofLot l))) := by
    rw [actLotRetire_named flag nonzero named, if_neg (not_or.2 ⟨away, not_not.2 ended⟩), if_neg live, if_neg closed]
  rcases window with rfl | ⟨rfl, passed⟩
  · exact retires true rfl (by simp)
  · refine retires false rfl fun h => ?_
    simp only [List.any_eq_true, Option.any_eq_true, Bool.and_eq_true, beq_iff_eq, decide_eq_true_eq] at h
    obtain ⟨-, j, mem, x, holds, done, t, time, runs⟩ := h
    exact absurd (passed j mem x holds done t time) (by omega)

/-- Settles O33: the report slot by its state, and the pages. -/
theorem reportLot : Obligations.ReportLot := by
  refine ⟨⟨fun r n => rfl, fun j h => ?_⟩, fun p tag lot page s takes => ?_⟩
  · refine ⟨_, ?_, summaryFlags h.a h.c h.unplanned (h.cond == some .noted) h.acceptTime.isSome h.proof.isSome h.e⟩
    unfold Handoff.summary
    simp only [beq_iff_eq]
    cases h.snap <;> rfl
  · by_cases zero : lot = 0
    · rw [if_pos zero]
      refine exec_answered rfl takes ?_
      change actReportLot p lot page s = _
      unfold actReportLot
      rw [if_pos zero]
    rw [if_neg zero]
    cases slot : s.report with
    | none =>
      cases named : s.lotNamed lot with
      | none => exact exec_answered rfl takes (actReportLot_unnamed zero slot named)
      | some x => exact exec_answered rfl takes (actReportLot_free zero slot named)
    | some r =>
      dsimp only
      by_cases held : r.holder = p ∧ r.lot = lot
      · rw [if_pos held]
        cases timer : r.timer with
        | none => exact exec_answered rfl takes (actReportLot_composing zero slot held timer)
        | some n =>
          dsimp only
          by_cases past : 1 + (r.handoffs.length + 3) / 4 ≤ page.toNat
          · rw [if_pos past]
            exact exec_answered rfl takes ((actReportLot_ready zero slot held timer).trans (if_pos past))
          · rw [if_neg past]
            exact exec_answered rfl takes ((actReportLot_ready zero slot held timer).trans (if_neg past))
      · rw [if_neg held]
        exact exec_answered rfl takes (actReportLot_busy zero slot held)

end Sys2Proof.Proofs
end

section
/-!
PROOF. Routes and stops (chapter 7): the checks of the requests in their order, and what they change.
-/
namespace Sys2Proof.Machine

variable {s : State}

/-! ### Counts and lists -/

theorem countP_setAt {α : Type} {n : Nat} (v : Vector α n) (i : Fin n) (x : α) (f : α → Bool) :
    (setAt v i x).toList.countP f = v.toList.countP f - (if f (v.get i) then 1 else 0) + if f x then 1 else 0 := by
  unfold setAt
  rw [Vector.toList_set, List.countP_set (by simp)]
  rfl

theorem countLots_all (s : State) : s.countLots (fun _ => true) = s.lots.toList.countP Option.isSome := by
  rw [countLots_eq]
  refine congrArg (fun f => List.countP f s.lots.toList) (funext fun o => ?_)
  cases o <;> rfl

theorem countStops_all (s : State) : s.countStops (fun _ => true) = s.stops.toList.countP Option.isSome := by
  rw [countStops_eq]
  refine congrArg (fun f => List.countP f s.stops.toList) (funext fun o => ?_)
  cases o <;> rfl

theorem noRepeat_iff (xs : List Word) : noRepeat xs = true ↔ xs.Nodup := by
  induction xs with
  | nil => simp [noRepeat]
  | cons x xs ih => simp [noRepeat, ih]

theorem counted_single {α : Type} (f : α → Byte) (xs : List α) :
    counted (fun x => [f x]) xs = BitVec.ofNat 8 xs.length :: xs.map f := by
  unfold counted u8
  rw [← List.map_eq_flatMap]
  rfl

theorem openDoors_eq (s : State) :
    s.openDoors = (List.finRange 4).filter fun d : Comp => decide ((s.doors.get d).state ≠ .closed) := by
  unfold State.openDoors
  congr 1
  funext d
  cases (s.doors.get d).state <;> rfl

theorem plannedBelow_eq (s : State) (n : StopNo) : s.plannedBelow n =
    (List.finRange 32).any fun m : StopNo => decide (m < n) && (s.stops.get m).any fun st => st.state == .planned := by
  unfold State.plannedBelow
  congr 1
  funext m
  cases s.stops.get m <;> rfl

/-! ### The checks of STOP_LOAD (R107) -/

section Load

variable {stop : Byte} {code mask : Word} {budget limit : Half} {planned : List (Word × Half)} {n : StopNo}

theorem badEntry_iff (planned : List (Word × Half)) :
    planned.any (fun e => e.1 == 0 || e.2 == 0) = true ↔ ∃ e ∈ planned, e.1 = 0 ∨ e.2 = 0 := by
  simp only [List.any_eq_true, Bool.or_eq_true, beq_iff_eq]

theorem actStopLoad_range (loading : s.route.state = .loading)
    (bad : 32 ≤ stop.toNat ∨ 8 < planned.length ∨ ∃ e ∈ planned, e.1 = 0 ∨ e.2 = 0) :
    actStopLoad stop code mask budget limit planned s = reply .range s := by
  unfold actStopLoad
  rw [if_neg (not_not.2 loading)]
  by_cases known : stop.toNat < 32
  · rw [indexIn_of_lt known]
    dsimp only
    rw [if_pos (by rw [badEntry_iff]; exact bad.resolve_left (not_le.2 known))]
  · rw [indexIn_eq_none.2 (not_lt.1 known)]

theorem actStopLoad_named (loading : s.route.state = .loading) (index : indexIn 32 stop = some n)
    (few : planned.length ≤ 8) (sound : ¬ ∃ e ∈ planned, e.1 = 0 ∨ e.2 = 0) :
    actStopLoad stop code mask budget limit planned s =
      if s.stops.get n ≠ none ∨ ¬ (planned.map Prod.fst).Nodup then reply .duplicate s
      else if ∃ e ∈ planned, s.lotNamed e.1 = none then reply .unknown s
      else
        let t := { s with stops := setAt s.stops n (some (Stop.load code mask budget limit planned)) }
        reply .ok t (u8 n.val ++ u8 (t.countStops fun _ => true)) := by
  have twice : (s.stops.get n).isSome = true ∨ noRepeat (planned.map (·.1)) = false ↔
      s.stops.get n ≠ none ∨ ¬ (planned.map Prod.fst).Nodup := by
    rw [← noRepeat_iff, Bool.not_eq_true, Option.isSome_iff_ne_none]
  have missing : planned.any (fun e => (s.lotNamed e.1).isNone) = true ↔ ∃ e ∈ planned, s.lotNamed e.1 = none := by
    simp
  unfold actStopLoad
  rw [if_neg (not_not.2 loading), index]
  dsimp only
  rw [if_neg (by rw [badEntry_iff]; exact not_or.2 ⟨not_lt.2 few, sound⟩)]
  simp only [twice, missing]

/-- A stop that enters a free place is one more in the table. -/
theorem countStops_added (free : s.stops.get n = none) (st : Stop) :
    (State.countStops { s with stops := setAt s.stops n (some st) } fun _ => true) =
      s.stops.toList.countP Option.isSome + 1 := by
  rw [countStops_all]
  exact (countP_setAt _ _ _ _).trans (by simp [free])

end Load

/-! ### Opening and closing a stop (R112, R114, R115) -/

section Stop

variable {n : StopNo} {st : Stop}

theorem openStop_eq (holds : s.stops.get n = some st) : s.openStop n = { s with
    stops := setAt s.stops n (some { st with
      state := .opened, openTime := some s.seconds
      outOfOrder := (List.finRange 32).any fun m : StopNo =>
        decide (m < n) && (s.stops.get m).any fun st => st.state == .planned
      timer := if 0 < st.limit then some st.limit else none })
    route := { s.route with openStop := some n }
    doors := mapV (fun d => { d with stopAcc := 0 }) s.doors } := by
  unfold State.openStop
  dsimp only
  rw [modStop_some _ holds, plannedBelow_eq]
  rfl

theorem countHandoffs_eq (list : List HIndex) (x : HandoffState) :
    s.countHandoffs list x = list.countP fun j => (s.handoffs.get j).any fun h => h.state == x := by
  unfold State.countHandoffs
  refine congrArg (fun f => List.countP f list) (funext fun j => ?_)
  cases s.handoffs.get j <;> rfl

theorem actStopClose_none (closed : s.route.openStop = none) : actStopClose s = reply .state s := by
  unfold actStopClose State.currentStop
  rw [closed]

theorem actStopClose_some (opened : s.route.openStop = some n) (holds : s.stops.get n = some st) :
    actStopClose s = reply .ok (s.closeStop n st) (closeBody n st s (s.closeStop n st)) := by
  unfold actStopClose
  rw [(currentStop_some s).2 ⟨opened, holds⟩]

/-- A close with nothing to count first: the handoffs resolved, and then the stop CLOSED. -/
theorem closeStop_resolved (quiet : ∀ d : Comp, (s.doors.get d).stopAcc < 1000) (holds : s.stops.get n = some st)
    {u : State} (resolves : u = st.offers.foldl State.resolve s) (resolved : Resolved s u st.offers) :
    s.closeStop n st = { s with
      handoffs := u.handoffs, lots := u.lots
      stops := setAt s.stops n (some (st.close s.seconds (st.planned.map fun e => u.acceptedAt st.offers e.1)))
      route := { s.route with openStop := none }
      doors := mapV (fun d => { d with stopAcc := 0 }) s.doors } := by
  unfold State.closeStop
  rw [drainStop_none n s quiet, ← resolves]
  have stops : u.stops.get n = some st := by rw [resolved.frame]; exact holds
  dsimp only
  rw [modStop_some _ stops, resolved.frame]

/-- A door second counted before a close leaves the port that asks as it was. -/
theorem addDoorSecond_stop (d : Comp) (holds : s.stops.get n = some st) : ∃ st' : Stop,
    (s.addDoorSecond n d).stops.get n = some st' ∧ st'.offers = st.offers ∧ st'.planned = st.planned := by
  have keys : ((s.addDoorSecond n d).stops.get n).map Stop.keys = some st.keys := by
    rw [addDoorSecond_keeps s n d .stopKeys (by simp) n, holds]
    rfl
  obtain ⟨st', holds', same⟩ := Option.map_eq_some_iff.1 keys
  obtain ⟨-, offers, planned⟩ := (by simpa only [Stop.keys, Prod.mk.injEq] using same :
    st'.state = st.state ∧ st'.offers = st.offers ∧ st'.planned = st.planned)
  exact ⟨st', holds', offers, planned⟩

theorem post_takes (b : NoticeBody) {p : Port} {kind : Byte} (takes : s.takes p kind) : (s.post b).takes p kind := by
  have frame := enqueue_frame ⟨b, s.seconds⟩ (s.ports.get p)
  have port : (s.post b).ports.get p = PortState.enqueue ⟨b, s.seconds⟩ (s.ports.get p) := get_mapV _ _ _
  obtain ⟨ready, sound, idle, right⟩ := takes
  rw [State.takes, port, frame]
  exact ⟨ready, sound, idle, right⟩

theorem addDoorSecond_takes (d : Comp) {p : Port} {kind : Byte} (takes : s.takes p kind) :
    (s.addDoorSecond n d).takes p kind := by
  unfold State.addDoorSecond
  dsimp only
  split
  · split
    · exact post_takes _ takes
    · exact takes
  · exact takes

/-- A close counts the whole seconds that STOP_DOOR_SECOND would have counted before it. -/
theorem actStopClose_of_second {d : Comp} (opened : s.route.openStop = some n) (holds : s.stops.get n = some st)
    (whole : 1000 ≤ (s.doors.get d).stopAcc) (below : ∀ e : Comp, e < d → (s.doors.get e).stopAcc < 1000) :
    actStopClose (s.addDoorSecond n d) = actStopClose s := by
  have kept := addDoorSecond_keeps s n d
  obtain ⟨st', holds', offers, planned⟩ := addDoorSecond_stop d holds
  have route : (s.addDoorSecond n d).route = s.route := kept .route (by simp)
  have seconds : (s.addDoorSecond n d).seconds = s.seconds := kept .seconds (by simp)
  have handoffs : (s.addDoorSecond n d).handoffs = s.handoffs := kept .handoffs (by simp)
  have closes : (s.addDoorSecond n d).closeStop n st' = s.closeStop n st := by
    unfold State.closeStop
    rw [offers, planned, seconds, ← drainStop_first n s d whole below]
  rw [actStopClose_some opened holds, actStopClose_some (by rw [route]; exact opened) holds', closes]
  unfold closeBody State.countHandoffs
  rw [offers, seconds, handoffs]

end Stop

end Sys2Proof.Machine

namespace Sys2Proof.Proofs
open Sys2Proof.Machine

/-- Settles O34: a route begins, and the checks of STOP_LOAD in their order. -/
theorem routeBeginAndStopLoad : Obligations.RouteBeginAndStopLoad := by
  refine ⟨fun p tag number s takes => ?_, ?_⟩
  · by_cases ended : s.route.state = .noRoute ∨ s.route.state = .returned
    · rw [if_pos ended]
      refine exec_answered rfl takes ?_
      change actRouteBegin number s = _
      unfold actRouteBegin
      rw [if_pos ended, countLots_all]
      rfl
    · rw [if_neg ended]
      exact exec_answered rfl takes (if_neg ended)
  · intro p tag stop code mask budget limit planned s takes range unknown
    refine ⟨fun elsewhere => ?_, fun loading bad => ?_, fun loading few sound n index => ?_⟩
    · exact answersWith_of_status rfl takes (congrArg Reply.status (if_pos elsewhere))
    · exact answersWith_of_status rfl takes (congrArg Reply.status (actStopLoad_range loading bad))
    · have act := actStopLoad_named (code := code) (mask := mask) (budget := budget) (limit := limit)
        loading index few sound
      by_cases twice : s.stops.get n ≠ none ∨ ¬ (planned.map Prod.fst).Nodup
      · rw [if_pos twice]
        exact answersWith_of_status rfl takes (congrArg Reply.status (act.trans (if_pos twice)))
      · rw [if_neg twice]
        have act := act.trans (if_neg twice)
        by_cases missing : unknown
        · rw [if_pos missing]
          exact answersWith_of_status rfl takes (congrArg Reply.status (act.trans (if_pos missing)))
        · rw [if_neg missing]
          refine exec_answered rfl takes ((act.trans (if_neg missing)).trans ?_)
          dsimp only
          rw [countStops_added (not_not.1 (not_or.1 twice).1)]
          rfl

/-- Settles O35: the checks of DISPATCH, and the receipts. -/
theorem dispatch : Obligations.Dispatch := by
  intro p tag s takes open_ stowed
  have lots : s.countLots (fun l => l.state == .stowed) = stowed := countLots_eq _ _
  have act : actDispatch s = if s.route.state ≠ .loading then reply .state s
      else if s.clockUnset = true then reply .clockUnset s
      else if open_ ≠ [] then reply .doorOpen s (BitVec.ofNat 8 open_.length :: open_.map fun d => BitVec.ofNat 8 d.val)
      else if stowed = 0 then reply .state s
      else reply .ok { s with
          lots := mapV (Option.map fun l : Lot => if l.state = .stowed then
            { l with state := .onBoard, dispatched := some ⟨s.seconds, s.route.number.getD 0, l.acct⟩ } else l) s.lots
          route := { s.route with state := .dispatched, dispatchTime := some s.seconds } }
          (wordBytes s.seconds ++ [BitVec.ofNat 8 stowed]) := by
    unfold actDispatch
    dsimp only
    rw [lots, openDoors_eq, ← counted_single]
    rfl
  by_cases elsewhere : s.route.state ≠ .loading
  · rw [if_pos elsewhere]
    exact exec_answered rfl takes (act.trans (if_pos elsewhere))
  rw [if_neg elsewhere]
  have act := act.trans (if_neg elsewhere)
  by_cases unset : s.clockUnset = true
  · rw [if_pos unset]
    exact exec_answered rfl takes (act.trans (if_pos unset))
  rw [if_neg unset]
  have act := act.trans (if_neg unset)
  by_cases ajar : open_ ≠ []
  · rw [if_pos ajar]
    exact exec_answered rfl takes (act.trans (if_pos ajar))
  rw [if_neg ajar]
  have act := act.trans (if_neg ajar)
  by_cases empty : stowed = 0
  · rw [if_pos empty]
    exact exec_answered rfl takes (act.trans (if_pos empty))
  rw [if_neg empty]
  exact exec_answered rfl takes (act.trans (if_neg empty))

/-- Settles O36: RETURN with no stop OPEN. -/
theorem vanReturn : Obligations.Return := by
  intro p tag s takes planned onBoard
  have lots : s.countLots (fun l => l.state == .onBoard) = onBoard := countLots_eq _ _
  have stops : s.countStops (fun st => st.state == .planned) = planned := countStops_eq _ _
  by_cases may : s.route.state = .dispatched ∧ s.route.openStop = none
  · rw [if_pos may]
    refine exec_answered rfl takes ?_
    change actVanReturn s = _
    unfold actVanReturn
    rw [if_neg (by simp [may.1, may.2]), lots, stops]
    rfl
  · rw [if_neg may]
    refine exec_answered rfl takes (if_pos ?_)
    rwa [← Option.ne_none_iff_isSome, ← not_and_or]

/-- Settles O37: the checks of STOP_OPEN, and the stop that it opens. -/
theorem stopOpen : Obligations.StopOpen := by
  intro p tag stop s takes
  cases index : indexIn 32 stop with
  | none =>
    refine exec_answered rfl takes ?_
    change actStopOpen stop s = _
    unfold actStopOpen
    rw [index]
  | some n =>
    dsimp only
    by_cases elsewhere : s.route.state ≠ .dispatched
    · rw [if_pos elsewhere]
      refine exec_answered rfl takes ?_
      change actStopOpen stop s = _
      unfold actStopOpen
      rw [index]
      exact if_pos elsewhere
    rw [if_neg elsewhere]
    cases holds : s.stops.get n with
    | none =>
      refine exec_answered rfl takes ?_
      change actStopOpen stop s = _
      unfold actStopOpen
      rw [index]
      dsimp only
      rw [if_neg elsewhere, holds]
    | some st =>
      have act : actStopOpen stop s =
          if s.route.openStop.isSome = true ∨ st.state ≠ .planned then reply .state s
          else reply .ok (s.openStop n) (timeBytes s.seconds ++ u16 st.limit ++ flag (s.plannedBelow n)) := by
        unfold actStopOpen
        rw [index]
        dsimp only
        rw [if_neg elsewhere, holds]
      dsimp only
      by_cases may : s.route.openStop = none ∧ st.state = .planned
      · rw [if_pos may]
        refine exec_answered rfl takes (act.trans ?_)
        rw [if_neg (by simp [may.1, may.2]), plannedBelow_eq, openStop_eq holds]
        rfl
      · rw [if_neg may]
        refine exec_answered rfl takes (act.trans (if_pos ?_))
        rwa [← Option.ne_none_iff_isSome, ← not_and_or]

/-- Settles O38: what a close resolves, and the door seconds that it counts first. -/
theorem stopClose : Obligations.StopClose := by
  intro p tag s takes
  refine ⟨fun closed => exec_answered rfl takes (actStopClose_none closed), fun n st opened holds quiet => ?_,
    fun n st d opened holds whole below => ?_⟩
  · intro count
    have resolved : Resolved s (st.offers.foldl State.resolve s) st.offers := resolve_list _ _
    obtain ⟨u, resolves⟩ : ∃ u, u = st.offers.foldl State.resolve s := ⟨_, rfl⟩
    rw [← resolves] at resolved
    have closes := closeStop_resolved quiet holds resolves resolved
    refine ⟨s.closeStop n st, exec_answered rfl takes ((actStopClose_some opened holds).trans ?_), ?_, fun j => ?_,
      fun m other => ?_, ?_, fun i free => ?_, fun i l stands => ?_⟩
    · generalize s.closeStop n st = t
      unfold closeBody
      simp only [countHandoffs_eq, count] <;> rfl
    all_goals rw [closes]
    · refine (resolved.hand j).trans (congrFun (congrArg Option.map (funext fun h => ?_)) _)
      unfold Handoff.resolved
      split
      · cases h.state <;> rfl
      · rfl
    · exact get_setAt_ne _ _ other
    · exact get_setAt_self _ _ _
    · exact (resolved.lots i).trans (by rw [free, Option.map_none])
    · exact (resolved.lots i).trans (by rw [stands, Option.map_some]; rfl)
  · have due : exec (.stopDoorSecond d) s = .next (s.addDoorSecond n d) := by
      change Host.Outcome.next (stopDoorSecond d s) = _
      unfold stopDoorSecond
      rw [(currentStop_some s).2 ⟨opened, holds⟩]
      dsimp only
      rw [if_pos ⟨by simp [takes.1], whole⟩]
    have still := addDoorSecond_takes (n := n) d takes
    refine ⟨s.addDoorSecond n d, due, still, ?_, ?_⟩
    · rw [addDoorSecond_stopAcc, if_pos rfl]
    · rw [exec_taken rfl takes, exec_taken rfl still]
      exact congrArg (fun r => Host.Outcome.next (State.respond p _ _ tag r))
        (actStopClose_of_second opened holds whole below).symm

end Sys2Proof.Proofs
end

section
/-!
PROOF. Handoffs (chapter 8), and the four timers that end a stop's time, an offer, a composition and a report.
-/
namespace Sys2Proof.Machine

variable {s : State} {j : HIndex} {h : Handoff} {l : Lot}

/-! ### One handoff and its lot -/

theorem freeIndex_some : s.freeIndex = some j ↔ s.handoffs.get j = none ∧ ∀ k, k < j → s.handoffs.get k ≠ none := by
  unfold State.freeIndex
  rw [find_finRange]
  simp [← Option.isSome_iff_ne_none]

theorem modHandoff_modLot (f : Handoff → Handoff) (g : Lot → Lot) (holds : s.handoffs.get j = some h)
    (lot : s.lots.get h.slot = some l) : (s.modHandoff j f).modLot h.slot g = { s with
      handoffs := setAt s.handoffs j (some (f h)), lots := setAt s.lots h.slot (some (g l)) } := by
  rw [modHandoff_some f holds, modLot_some (s := { s with handoffs := setAt s.handoffs j (some (f h)) }) g lot]

/-- The cartons of a whole offer that is there come back (R124). -/
theorem move_takeBack {n : Nat} (enough : n ≤ l.qty.offered) : l.move (Quantities.takeBack n) = { l with
    qty := { l.qty with offered := l.qty.offered - n, onBoard := l.qty.onBoard + n } } :=
  congrArg (fun x => { l with qty := x }) (answer_enough enough (Nat.zero_le n))

theorem endOffer_eq (holds : s.handoffs.get j = some h) (lot : s.lots.get h.slot = some l)
    (enough : h.q ≤ l.qty.offered) (last : HandoffState) : s.endOffer j h last = { s with
      handoffs := setAt s.handoffs j (some { h with state := last, endTime := some s.seconds, ack := none })
      lots := setAt s.lots h.slot (some { l with
        qty := { l.qty with offered := l.qty.offered - h.q, onBoard := l.qty.onBoard + h.q } }) } := by
  unfold State.endOffer
  rw [modHandoff_modLot _ _ holds lot, move_takeBack enough]

theorem settle_eq (holds : s.handoffs.get j = some h) (copied : Bool) : s.settle j copied = { s with
    handoffs := setAt s.handoffs j (some
      { h with state := .settled, settleTime := some s.seconds, ack := none, c := h.c || copied }) } :=
  modHandoff_some _ holds

theorem onBoardIn_of (lot : s.lots.get i = some l) : s.onBoardIn i = l.qty.onBoard := by
  unfold State.onBoardIn
  rw [lot]
  rfl

/-! ### The answer of the consignee (R128 to R131) -/

section Accept

variable {index condition : Byte} {code : Word} {accepted : Half} {cond : Condition}

theorem readCondition_none : readCondition condition = none ↔ 2 ≤ condition.toNat := by
  unfold readCondition
  split_ifs with good noted
  · simp [good]
  · simp [noted]
  · simp only [true_iff]
    bv_omega

theorem readCondition_some (known : condition.toNat ≤ 1) : ∃ cond, readCondition condition = some cond :=
  Option.ne_none_iff_exists'.1 fun unknown => by have := readCondition_none.1 unknown; omega

theorem actHandoffAccept_range (bad : 128 ≤ index.toNat ∨ 2 ≤ condition.toNat) :
    actHandoffAccept index code accepted condition s = reply .range s := by
  unfold actHandoffAccept
  rcases bad with high | unknown
  · rw [indexIn_eq_none.2 high]
  · rw [readCondition_none.2 unknown]
    cases indexIn 128 index <;> rfl

theorem actHandoffAccept_free (entry : indexIn 128 index = some j) (known : readCondition condition = some cond)
    (free : s.handoffs.get j = none) : actHandoffAccept index code accepted condition s = reply .unknown s := by
  unfold actHandoffAccept
  rw [entry, known]
  dsimp only
  rw [free]

theorem actHandoffAccept_held (entry : indexIn 128 index = some j) (known : readCondition condition = some cond)
    (holds : s.handoffs.get j = some h) : actHandoffAccept index code accepted condition s =
      if h.state ≠ .offered then reply .state s (u8 h.state.code)
      else if h.q < accepted.toNat then reply .range s
      else if codeMatches code h.consignee h.mask = false then
        reply .ok (s.modHandoff j (Handoff.doubt .idMismatch)) (u8 0 ++ wordBytes code)
      else if accepted = 0 then
        reply .ok (s.refuseOffer j h code cond) (u8 1 ++ u16 ((s.refuseOffer j h code cond).onBoardIn h.slot))
      else match s.lots.get h.slot with
        | none => reply .unknown s
        | some l => reply .ok (s.acceptOffer j h l code accepted.toNat cond)
          (u8 2 ++ (makeProof j h l code accepted.toNat cond s.seconds).bytes
            ++ halfBytes (crc16 (makeProof j h l code accepted.toNat cond s.seconds).bytes)) := by
  unfold actHandoffAccept
  rw [entry, known]
  dsimp only
  rw [holds] <;> rfl

theorem codeMatches_eq_false (p x m : Word) : codeMatches p x m = false ↔ (p ^^^ x) &&& m ≠ 0 := by
  simp [codeMatches]

theorem refuseOffer_eq (holds : s.handoffs.get j = some h) (lot : s.lots.get h.slot = some l)
    (enough : h.q ≤ l.qty.offered) : s.refuseOffer j h code cond = { s with
      handoffs := setAt s.handoffs j (some { h with
        a := true, code := some code, cond := some cond, acceptTime := some s.seconds, refused := h.q, ack := none
        state := .refused })
      lots := setAt s.lots h.slot (some { l with
        qty := { l.qty with offered := l.qty.offered - h.q, onBoard := l.qty.onBoard + h.q } }) } := by
  unfold State.refuseOffer
  rw [modHandoff_modLot _ _ holds lot, move_takeBack enough]

/-- The accepted cartons are delivered, the rest come back, and the lot is judged with what is left (R131, R89). -/
theorem judge_answer {a : Nat} (enough : h.q ≤ l.qty.offered) (within : a ≤ h.q) :
    (l.move (Quantities.answer h.q a)).judge = { l with
      qty := { l.qty with
        offered := l.qty.offered - h.q, delivered := l.qty.delivered + a, onBoard := l.qty.onBoard + (h.q - a) }
      state := if l.qty.onBoard + (h.q - a) = 0 ∧ l.qty.offered - h.q = 0 then .depleted else l.state } := by
  unfold Lot.judge Lot.move
  rw [answer_enough enough within]
  dsimp only
  split_ifs <;> rfl

theorem acceptOffer_eq {a : Nat} (holds : s.handoffs.get j = some h) (lot : s.lots.get h.slot = some l)
    (enough : h.q ≤ l.qty.offered) (within : a ≤ h.q) {proof : Proof}
    (formed : makeProof j h l code a cond s.seconds = proof) : s.acceptOffer j h l code a cond =
      State.post { s with
        handoffs := setAt s.handoffs j (some { h with
          a := true, code := some code, cond := some cond, acceptTime := some s.seconds, accepted := a
          refused := h.q - a, snap := some l.acct, proof := some (proof, crc16 proof.bytes)
          ack := some s.settings.general.handoffWindow, state := .proofReady })
        lots := setAt s.lots h.slot (some { l with
          qty := { l.qty with
            offered := l.qty.offered - h.q, delivered := l.qty.delivered + a, onBoard := l.qty.onBoard + (h.q - a) }
          state := if l.qty.onBoard + (h.q - a) = 0 ∧ l.qty.offered - h.q = 0 then .depleted else l.state }) }
        (.proofReady j l.number (crc16 proof.bytes)) := by
  unfold State.acceptOffer
  dsimp only
  rw [modHandoff_modLot _ _ holds lot, judge_answer enough within, formed]

end Accept

end Sys2Proof.Machine

namespace Sys2Proof.Proofs

open Sys2Proof.Machine

/-- Settles O39: the four timers of stops, offers and reports. -/
theorem timers : Obligations.Timers := by
  refine ⟨fun n st s ready opened holds due => ?_, fun j h s ready holds due => ⟨fun l offered lot enough => ?_,
    fun waiting => ?_⟩, fun r s ready slot => ⟨fun composing => ?_, fun due => ?_⟩⟩
  · change Host.Outcome.next (stopTimerExpiry s) = _
    unfold stopTimerExpiry
    rw [(currentStop_some s).2 ⟨opened, holds⟩]
    exact congrArg _ (if_pos ⟨ready, due⟩)
  · change Host.Outcome.next (ackTimerExpiry j s) = _
    unfold ackTimerExpiry
    rw [holds]
    dsimp only
    rw [if_pos ⟨ready, due⟩, offered, lot]
    dsimp only
    rw [endOffer_eq holds lot enough]
    rfl
  · change Host.Outcome.next (ackTimerExpiry j s) = _
    unfold ackTimerExpiry
    rw [holds]
    dsimp only
    rw [if_pos ⟨ready, due⟩, waiting]
    dsimp only
    rw [settle_eq holds, Bool.or_false]
  · change Host.Outcome.next (compositionCompletion s) = _
    unfold compositionCompletion
    rw [slot]
    exact congrArg _ (if_pos ⟨ready, composing⟩)
  · change Host.Outcome.next (discardTimerExpiry s) = _
    unfold discardTimerExpiry
    rw [slot]
    exact congrArg _ (if_pos ⟨ready, due⟩)

/-- Settles O40: the checks of HANDOFF_OFFER, and the record of an offer. -/
theorem handoffOffer : Obligations.HandoffOffer := by
  intro p tag lot quantity s takes c
  refine ⟨fun closed => ?_, fun n st dispatched opened stop => ?_⟩
  · refine answersWith_of_status rfl takes ?_
    change (actHandoffOffer lot quantity s).status = _
    unfold actHandoffOffer
    cases current : s.currentStop with
    | none => rfl
    | some x =>
      have opened := ((currentStop_some s).1 current).1
      dsimp only
      rw [if_pos (closed.resolve_right (by rw [opened]; exact Option.some_ne_none _))]
      rfl
  · have act : actHandoffOffer lot quantity s =
        if lot = 0 ∨ quantity = 0 then reply .range s
        else match s.lotNamed lot with
          | none => reply .unknown s
          | some (i, l) =>
            if l.state ≠ .onBoard ∨ l.qty.onBoard < quantity.toNat then reply .range s
            else match s.freeIndex with
              | none => reply .full s
              | some j =>
                if 16 ≤ l.handoffs.length then reply .full s
                else
                  let h := newHandoff s i l n st quantity.toNat
                  let l' := { l.move (Quantities.offer quantity.toNat) with handoffs := l.handoffs ++ [j] }
                  let t := { s with handoffs := setAt s.handoffs j (some h), lots := setAt s.lots i (some l') }
                  reply .ok (t.modStop n fun st => { st with offers := st.offers ++ [j] })
                    (u8 j.val ++ flag h.unplanned ++ u16 s.settings.general.handoffWindow ++ u16 l'.qty.onBoard) := by
      unfold actHandoffOffer
      rw [(currentStop_some s).2 ⟨opened, stop⟩]
      exact if_neg (not_not.2 dispatched)
    by_cases zero : lot = 0 ∨ quantity = 0
    · rw [if_pos zero]
      exact answersWith_of_status rfl takes (congrArg Reply.status (act.trans (if_pos zero)))
    rw [if_neg zero]
    replace act := act.trans (if_neg zero)
    cases named : s.lotNamed lot with
    | none =>
      rw [named] at act
      exact answersWith_of_status rfl takes (congrArg Reply.status act)
    | some x =>
      obtain ⟨i, l⟩ := x
      rw [named] at act
      dsimp only at act ⊢
      by_cases short : l.state ≠ .onBoard ∨ l.qty.onBoard < quantity.toNat
      · rw [if_pos short]
        exact answersWith_of_status rfl takes (congrArg Reply.status (act.trans (if_pos short)))
      rw [if_neg short]
      replace act := act.trans (if_neg short)
      by_cases full : (∀ j : HIndex, s.handoffs.get j ≠ none) ∨ 16 ≤ l.handoffs.length
      · rw [if_pos full]
        refine answersWith_of_status rfl takes ((congrArg Reply.status act).trans ?_)
        cases index : s.freeIndex with
        | none => rfl
        | some j =>
          dsimp only
          rw [if_pos (full.resolve_left fun taken => taken j (freeIndex_some.1 index).1)]
          rfl
      · rw [if_neg full]
        intro j free lowest
        refine exec_answered rfl takes (act.trans ?_)
        rw [freeIndex_some.2 ⟨free, lowest⟩]
        dsimp only
        rw [if_neg (not_or.1 full).2, modStop_some (st := st)]
        · unfold Lot.move
          rw [offer_enough (not_lt.1 (not_or.1 short).2)]
          rfl
        · exact stop

/-- Settles O41: the consignee's answer. -/
theorem handoffAccept : Obligations.HandoffAccept := by
  refine ⟨fun p tag index code accepted condition s takes => ⟨fun bad => ?_, fun j entry known =>
    ⟨fun free => ?_, fun h holds => ⟨fun ended => ?_, fun offered more => ?_⟩⟩⟩,
    fun p tag index code accepted condition cond j h l s takes entry condEq holds offered within lot enough => ?_⟩
  · exact exec_answered rfl takes (actHandoffAccept_range bad)
  · obtain ⟨cond, known⟩ := readCondition_some known
    exact exec_answered rfl takes (actHandoffAccept_free entry known free)
  · obtain ⟨cond, known⟩ := readCondition_some known
    exact exec_answered rfl takes ((actHandoffAccept_held entry known holds).trans (if_pos ended))
  · obtain ⟨cond, known⟩ := readCondition_some known
    have act := actHandoffAccept_held (accepted := accepted) (code := code) entry known holds
    exact exec_answered rfl takes ((act.trans (if_neg (not_not.2 offered))).trans (if_pos more))
  · intro c a
    have known : readCondition condition = some cond := by
      rcases condEq with ⟨rfl, rfl⟩ | ⟨rfl, rfl⟩ <;> rfl
    have act := actHandoffAccept_held (accepted := accepted) (code := code) entry known holds
    rw [if_neg (not_not.2 offered), if_neg (not_lt.2 within)] at act
    by_cases mismatch : (code ^^^ h.consignee) &&& h.mask ≠ 0
    · rw [if_pos mismatch]
      rw [if_pos ((codeMatches_eq_false _ _ _).2 mismatch), modHandoff_some _ holds] at act
      exact exec_answered rfl takes act
    rw [if_neg mismatch]
    rw [if_neg (mt (codeMatches_eq_false _ _ _).1 mismatch)] at act
    by_cases refusal : a = 0
    · rw [if_pos refusal]
      rw [if_pos ((half_eq_zero accepted).2 refusal),
        onBoardIn_of (by rw [refuseOffer_eq holds lot enough]; exact get_setAt_self _ _ _),
        refuseOffer_eq holds lot enough] at act
      exact exec_answered rfl takes act
    rw [if_neg refusal]
    rw [if_neg (mt (half_eq_zero accepted).1 refusal), lot] at act
    dsimp only at act
    intro onBoard left
    refine ⟨makeProof j h l code a cond s.seconds, ⟨rfl, rfl, rfl, rfl, rfl, rfl, rfl, rfl, rfl, rfl, rfl, rfl, rfl,
      rfl, rfl, rfl, fun r sent => ?_, rfl, rfl, rfl⟩, ?_⟩
    · unfold makeProof
      rw [sent] <;> rfl
    · rw [acceptOffer_eq holds lot enough within rfl] at act
      exact exec_answered rfl takes act

/-- Settles O42: the copy's check, and a withdrawal. -/
theorem handoffCopiedAndWithdraw : Obligations.HandoffCopiedAndWithdraw := by
  refine ⟨fun p tag index value s => ⟨fun high => ⟨fun takes => ?_, fun takes => ?_⟩,
      fun j entry free => ⟨fun takes => ?_, fun takes => ?_⟩⟩,
    fun p tag index value j h s takes entry holds => ?_,
    fun p tag index j h s takes entry holds => ⟨fun l offered lot enough => ?_, fun done => ?_, fun ended => ?_⟩⟩
  · refine exec_answered rfl takes ?_
    change actHandoffCopied index value s = _
    unfold actHandoffCopied
    rw [indexIn_eq_none.2 high]
  · refine exec_answered rfl takes ?_
    change actHandoffWithdraw index s = _
    unfold actHandoffWithdraw
    rw [indexIn_eq_none.2 high]
  · refine exec_answered rfl takes ?_
    change actHandoffCopied index value s = _
    unfold actHandoffCopied
    rw [entry]
    dsimp only
    rw [free]
  · refine exec_answered rfl takes ?_
    change actHandoffWithdraw index s = _
    unfold actHandoffWithdraw
    rw [entry]
    dsimp only
    rw [free]
  · have act : actHandoffCopied index value s =
        if h.state ≠ .proofReady then reply .state s (u8 h.state.code)
        else if value = (h.proof.map (·.2)).getD 0 then reply .ok (s.settle j true) (u8 0)
        else reply .ok (s.modHandoff j (Handoff.doubt .copyMismatch))
          (u8 1 ++ halfBytes value ++ halfBytes ((h.proof.map (·.2)).getD 0)) := by
      unfold actHandoffCopied
      rw [entry]
      dsimp only
      rw [holds]
    rw [settle_eq holds, Bool.or_true, modHandoff_some _ holds] at act
    by_cases other : h.state ≠ .proofReady
    · rw [if_pos other]
      exact exec_answered rfl takes (act.trans (if_pos other))
    rw [if_neg other]
    replace act := act.trans (if_neg other)
    by_cases same : value = (h.proof.map Prod.snd).getD 0
    · rw [if_pos same]
      exact exec_answered rfl takes (act.trans (if_pos same))
    · rw [if_neg same]
      exact exec_answered rfl takes (act.trans (if_neg same))
  · refine exec_answered rfl takes ?_
    change actHandoffWithdraw index s = _
    unfold actHandoffWithdraw
    rw [entry]
    dsimp only
    rw [holds]
    dsimp only
    rw [offered]
    dsimp only
    rw [onBoardIn_of (by rw [endOffer_eq holds lot enough]; exact get_setAt_self _ _ _), endOffer_eq holds lot enough]
    rfl
  · refine exec_answered rfl takes ?_
    change actHandoffWithdraw index s = _
    unfold actHandoffWithdraw
    rw [entry]
    dsimp only
    rw [holds]
    rcases done with state | state <;> simp only [state]
  · refine exec_answered rfl takes ?_
    change actHandoffWithdraw index s = _
    unfold actHandoffWithdraw
    rw [entry]
    dsimp only
    rw [holds]
    rcases ended with state | state | state <;> simp only [state]

end Sys2Proof.Proofs
end

section
/-!
PROOF. Claims (chapter 9): the checks of CLAIM_LODGE, an accepted claim, and the requests that name a claim.
-/
namespace Sys2Proof.Machine

variable {s : State}

/-! ### Lodging (R144, R145) -/

section Lodge

variable {index : Byte} {code : Word} {quantity : Half} {j : HIndex} {h : Handoff} {l : Lot} {settled : Time}

/-- The record of a new claim (R145). -/
def newClaim (s : State) (j : HIndex) (l : Lot) (code : Word) (quantity : Half) : Claim :=
  { number := freeNumber s.claims 17 s.nextClaim, handoff := j, lot := l.number, claimant := code,
    quantity := quantity.toNat, lodgeTime := s.seconds, state := .lodged, verdict := none, reason := none,
    figures := none, decideTime := none, endTime := none, fetched := false }

/-- The state that an accepted claim leaves, before the assessor may start. -/
def State.lodged (s : State) (j : HIndex) (c : Claim) : State :=
  State.modOpenClaims { s with claims := s.claims ++ [c], nextClaim := nextNumber c.number } j (· + 1)

theorem Claim.holds_eq (c : Claim) : c.holds = (c.state != .withdrawn) := by
  unfold Claim.holds Claim.live
  cases c.state <;> rfl

theorem actClaimLodge_range (bad : 128 ≤ index.toNat ∨ quantity = 0) :
    actClaimLodge index code quantity s = reply .range s := by
  unfold actClaimLodge
  cases entry : indexIn 128 index with
  | none => rfl
  | some j =>
    have below : index.toNat < 128 := not_le.1 fun high => by rw [indexIn_eq_none.2 high] at entry; cases entry
    exact if_pos (bad.resolve_left (not_le.2 below))

theorem actClaimLodge_free (entry : indexIn 128 index = some j) (nonzero : quantity ≠ 0)
    (free : s.handoffs.get j = none) : actClaimLodge index code quantity s = reply .unknown s := by
  unfold actClaimLodge
  rw [entry]
  dsimp only
  rw [if_neg nonzero, free]

theorem actClaimLodge_unsettled (entry : indexIn 128 index = some j) (nonzero : quantity ≠ 0)
    (holds : s.handoffs.get j = some h) (other : h.state ≠ .settled) :
    actClaimLodge index code quantity s = reply .state s (u8 h.state.code) := by
  unfold actClaimLodge
  rw [entry]
  dsimp only
  rw [if_neg nonzero, holds]
  dsimp only
  split
  next settled _ _ => exact absurd settled other
  next => rfl

theorem actClaimLodge_settled (entry : indexIn 128 index = some j) (nonzero : quantity ≠ 0)
    (holds : s.handoffs.get j = some h) (state : h.state = .settled) (time : h.settleTime = some settled)
    (lot : s.lots.get h.slot = some l) : actClaimLodge index code quantity s =
      if codeMatches code h.consignee h.mask = false then reply .claimant s
      else if h.accepted < quantity.toNat then reply .range s
      else match s.claims.find? fun c => c.handoff == j && c.state != .withdrawn with
        | some c => reply .duplicate s (u16 c.number ++ u8 c.state.code)
        | none =>
          if (s.settings.classes.get l.cls).windowSecs < span settled s.seconds then
            reply .tooLate s (timeBytes settled
              ++ timeBytes (settled + BitVec.ofNat 32 (s.settings.classes.get l.cls).windowSecs))
          else if 16 ≤ s.claims.length then reply .full s
          else reply .ok (s.lodged j (newClaim s j l code quantity)).startAssessor
            (u16 (newClaim s j l code quantity).number ++ timeBytes s.seconds ++ u8 (s.claims.countP Claim.live)) := by
  unfold actClaimLodge
  rw [entry]
  dsimp only
  rw [if_neg nonzero, holds]
  dsimp only
  rw [state, time, lot]
  simp only [Claim.holds_eq] <;> rfl

theorem lodged_eq (holds : s.handoffs.get j = some h) (lot : s.lots.get h.slot = some l) (c : Claim) :
    s.lodged j c = { s with
      claims := s.claims ++ [c], nextClaim := nextNumber c.number
      lots := setAt s.lots h.slot (some { l with openClaims := l.openClaims + 1 }) } := by
  unfold State.lodged
  rw [State.modOpenClaims_of_handoff (h := h) (by exact holds), modLot_some (l := l) _ (by exact lot)]

end Lodge

/-! ### The claim that a number names (R141) -/

theorem claimNamed_iff {number : Nat} {c : Claim} : s.claimNamed number = some c ↔
    c.number = number ∧ ∃ before after, s.claims = before ++ c :: after ∧ ∀ x ∈ before, x.number ≠ number := by
  simp [State.claimNamed, List.find?_eq_some_iff_append]

theorem claimNamed_none {number : Nat} : s.claimNamed number = none ↔ ∀ c ∈ s.claims, c.number ≠ number := by
  simp [State.claimNamed]

/-- Of the claims that are freed for a number, the assessor works on one exactly where it works on that number. -/
theorem freeClaims_number {c : Claim} (mem : c ∈ s.claims) : s.freeClaims (fun x => x.number == c.number) = { s with
    claims := s.claims.filter fun x => x.number != c.number
    assessor := s.assessor.map fun a => { a with claim := a.claim.filter fun n => n != c.number } } := by
  have gone (n : Nat) : (!(s.claims.any fun x => x.number == n && x.number == c.number)) = (n != c.number) := by
    rw [bne, Bool.not_inj_iff, Bool.eq_iff_iff]
    simp only [List.any_eq_true, Bool.and_eq_true, beq_iff_eq]
    exact ⟨fun ⟨x, _, left, right⟩ => left.symm.trans right, fun same => ⟨c, mem, same.symm, rfl⟩⟩
  unfold State.freeClaims
  simp only [gone]
  rfl

theorem withdrawClaim_eq (c : Claim) : s.withdrawClaim c =
    match s.handoffs.get c.handoff with
    | some h => State.modLot { s with claims := s.claims.map fun x => if x.number = c.number then
        { x with state := .withdrawn, endTime := some s.seconds } else x } h.slot
          fun l => { l with openClaims := l.openClaims - 1 }
    | none => { s with claims := s.claims.map fun x => if x.number = c.number then
        { x with state := .withdrawn, endTime := some s.seconds } else x } := by
  unfold State.withdrawClaim State.modOpenClaims State.modClaim
  dsimp only <;> cases s.handoffs.get c.handoff <;> rfl

section Named

variable {number : Half} {c : Claim}

theorem actClaimWithdraw_named (nonzero : number ≠ 0) (named : s.claimNamed number.toNat = some c) :
    actClaimWithdraw number s = match c.state with
      | .lodged => reply .ok (s.withdrawClaim c) (u8 c.state.code)
      | .assessing => reply .ok ((s.withdrawClaim c).discardAssessment c.number) (u8 c.state.code)
      | .decided | .withdrawn => reply .state s (u8 c.state.code) := by
  unfold actClaimWithdraw
  rw [if_neg nonzero, named] <;> rfl

theorem actClaimFetch_named (nonzero : number ≠ 0) (named : s.claimNamed number.toNat = some c) :
    actClaimFetch number s = match c.state with
      | .decided => reply .ok (s.modClaim c.number fun c => { c with fetched := true }) c.fetchBody
      | .lodged | .assessing => reply .pending s (u8 c.state.code ++ u8 (liveBefore s.claims c.number))
      | .withdrawn => reply .state s (u8 c.state.code ++ timeBytes (c.endTime.getD 0)) := by
  unfold actClaimFetch
  rw [if_neg nonzero, named] <;> rfl

theorem actClaimClear_named (nonzero : number ≠ 0) (named : s.claimNamed number.toNat = some c) :
    actClaimClear number s = if c.live then reply .state s (u8 c.state.code)
      else reply .ok (s.freeClaims fun x => x.number == c.number)
        (u8 c.state.code ++ opt 2 (fun v => u8 (Verdict.code v) ++ flag c.fetched) c.verdict) := by
  unfold actClaimClear
  rw [if_neg nonzero, named]

theorem Claim.live_iff (c : Claim) : c.live = true ↔ c.state = .lodged ∨ c.state = .assessing := by
  simp [Claim.live]

end Named

end Sys2Proof.Machine

namespace Sys2Proof.Proofs

open Sys2Proof.Machine

/-- Settles O43: the checks of CLAIM_LODGE in their order. -/
theorem claimLodgeOrder : Obligations.ClaimLodgeOrder := by
  intro p tag index code quantity s takes
  refine ⟨fun bad => exec_answered rfl takes (actClaimLodge_range bad), fun j entry nonzero =>
    ⟨fun free => exec_answered rfl takes (actClaimLodge_free entry nonzero free), fun h holds =>
    ⟨fun other => exec_answered rfl takes (actClaimLodge_unsettled entry nonzero holds other),
      fun settled l state time lot => ?_⟩⟩⟩
  have act := actClaimLodge_settled (code := code) entry nonzero holds state time lot
  intro window
  by_cases mismatch : (code ^^^ h.consignee) &&& h.mask ≠ 0
  · rw [if_pos mismatch]
    exact exec_answered rfl takes (act.trans (if_pos ((codeMatches_eq_false _ _ _).2 mismatch)))
  rw [if_neg mismatch]
  replace act := act.trans (if_neg (mt (codeMatches_eq_false _ _ _).1 mismatch))
  by_cases more : h.accepted < quantity.toNat
  · rw [if_pos more]
    exact exec_answered rfl takes (act.trans (if_pos more))
  rw [if_neg more]
  replace act := act.trans (if_neg more)
  cases held : s.claims.find? fun c => c.handoff == j && c.state != .withdrawn with
  | some c =>
    rw [held] at act
    exact exec_answered rfl takes act
  | none =>
    rw [held] at act
    dsimp only at act ⊢
    by_cases late : window < span settled s.seconds
    · rw [if_pos late]
      exact exec_answered rfl takes (act.trans (if_pos late))
    rw [if_neg late]
    replace act := act.trans (if_neg late)
    by_cases full : 16 ≤ s.claims.length
    · rw [if_pos full]
      exact exec_answered rfl takes (act.trans (if_pos full))
    · rw [if_neg full]
      exact answersWith_of_status rfl takes (congrArg Reply.status (act.trans (if_neg full)))

/-- Settles O44: an accepted claim's number and record, and the assessor's start. -/
theorem claimLodge : Obligations.ClaimLodge := by
  intro p tag index code quantity j h l settled snap r s takes entry nonzero holds state time lot taken dispatched
    matching within unheld inTime room low high
  have act := actClaimLodge_settled (code := code) entry nonzero holds state time lot
  have unfound : (s.claims.find? fun c => c.handoff == j && c.state != .withdrawn) = none := by
    simpa using unheld
  rw [if_neg (mt (codeMatches_eq_false _ _ _).1 (not_not.2 matching)), if_neg (not_lt.2 within), unfound] at act
  dsimp only at act
  replace act := (act.trans (if_neg (not_lt.2 inTime))).trans (if_neg (not_le.2 room))
  rw [lodged_eq holds lot] at act
  have fresh : ∀ c ∈ s.claims, c.number ≠ freeNumber s.claims 17 s.nextClaim := fun c mem same =>
    freeNumber_fresh low high (by omega : s.claims.length ≤ 17) (by omega) (same ▸ List.mem_map_of_mem mem)
  obtain ⟨least, most⟩ := freeNumber_range low high s.claims 17
  refine ⟨freeNumber s.claims 17 s.nextClaim, newClaim s j l code quantity, _, exec_answered rfl takes act, least, most,
    fresh, fun free => freeNumber_of_free 17 fun held => ?_, rfl, ?_, fun busy => ?_, fun idle unlodged => ?_⟩
  · obtain ⟨c, mem, same⟩ := List.mem_map.1 held
    exact free c mem same
  · have next : nextNumber (freeNumber s.claims 17 s.nextClaim) =
        if freeNumber s.claims 17 s.nextClaim = 65535 then 1 else freeNumber s.claims 17 s.nextClaim + 1 := by
      unfold nextNumber
      split_ifs <;> omega
    rw [← next]
    exact (startAssessor_frame _).1
  · rw [State.startAssessor_of_busy (by exact busy)]
    exact ⟨rfl, rfl⟩
  · rw [State.startAssessor_of_evidence (by exact idle) (by exact find_first_lodged unlodged rfl)
      (State.evidence_eq (by exact holds) (by exact get_setAt_self _ _ _) taken (by exact dispatched))]
    exact ⟨map_number_eq (c := newClaim s j l code quantity) (after := [])
      (by rw [List.append_nil]; exact fresh) _, rfl⟩

/-- Settles O45: the requests that name a claim. -/
theorem claimRequests : Obligations.ClaimRequests := by
  refine ⟨fun s number => ⟨fun c => claimNamed_iff, claimNamed_none⟩, fun p tag number s =>
    ⟨fun zero => ⟨fun takes => exec_answered rfl takes (if_pos zero),
    fun takes => exec_answered rfl takes (if_pos zero),
      fun takes => exec_answered rfl takes (if_pos zero)⟩, fun nonzero unnamed => ?_⟩,
    fun p tag number c s nonzero named => ?_⟩
  · refine ⟨fun takes => exec_answered rfl takes ((if_neg nonzero).trans ?_),
      fun takes => exec_answered rfl takes ((if_neg nonzero).trans ?_),
      fun takes => exec_answered rfl takes ((if_neg nonzero).trans ?_)⟩ <;> rw [unnamed]
  · refine ⟨fun takes => ?_, fun takes => ?_, fun takes => ?_⟩
    · have act := actClaimWithdraw_named nonzero named
      by_cases live : c.state = .lodged ∨ c.state = .assessing
      · rw [if_pos live]
        refine exec_answered rfl takes (act.trans ?_)
        rcases live with state | state
        · rw [state, withdrawClaim_eq]
          dsimp only
          cases s.handoffs.get c.handoff <;> rfl
        · rw [state, withdrawClaim_eq]
          dsimp only
          cases s.handoffs.get c.handoff <;> rfl
      · rw [if_neg live]
        refine exec_answered rfl takes (act.trans ?_)
        cases state : c.state
        case lodged => exact absurd (.inl state) live
        case assessing => exact absurd (.inr state) live
        case decided => rfl
        case withdrawn => rfl
    · have act := actClaimFetch_named nonzero named
      cases state : c.state <;> rw [state] at act <;> exact exec_answered rfl takes act
    · have act := actClaimClear_named nonzero named
      by_cases live : c.state = .lodged ∨ c.state = .assessing
      · rw [if_pos live]
        exact exec_answered rfl takes (act.trans (if_pos (c.live_iff.2 live)))
      · rw [if_neg live]
        replace act := act.trans (if_neg (mt c.live_iff.1 live))
        rw [freeClaims_number (claimNamed_some s named).1] at act
        refine exec_answered rfl takes (act.trans ?_)
        cases c.verdict <;> rfl

end Sys2Proof.Proofs
end

section
/-!
PROOF. Scans (chapter 1): the start of a scan, one read, and the delivery of the readings at its completion.
-/
namespace Sys2Proof.Machine

variable {s t u : State} {x : Scan}

/-! ### The start of a scan (R3) -/

theorem complete_iff (x : Scan) : x.complete = true ↔ ∀ i : Probe, x.reads.get i ≠ .waiting := by
  unfold Scan.complete
  rw [all_toList]
  simp

theorem newScan_complete (s : State) :
    s.newScan.complete = true ↔ ¬ s.settings.probes.toList.any ProbeCfg.enabled = true := by
  rw [complete_iff, any_toList, not_exists]
  refine forall_congr' fun i => not_congr ?_
  simp only [State.newScan, get_mapV]
  cases (s.settings.probes.get i).enabled <;> simp

theorem scanStart_eq (ready : s.phase = .ready) (idle : s.scanner.scan = none)
    (due : s.scanner.nextDue ≤ s.scanner.elapsed) :
    scanStart s = if s.settings.probes.toList.any ProbeCfg.enabled = true then s.startScan
      else scanCompletion 0 s.startScan := by
  have completes : scanCompletion 0 s.startScan =
      if s.newScan.complete then s.startScan.completeScan s.newScan 0 else s.startScan := by
    unfold scanCompletion
    exact if_pos ready
  unfold scanStart
  rw [if_pos ⟨ready, idle, due⟩, completes]
  by_cases some : s.settings.probes.toList.any ProbeCfg.enabled = true
  · rw [if_pos some]
    exact if_neg (mt (newScan_complete s).1 (not_not.2 some))
  · rw [if_neg some, if_pos ((newScan_complete s).2 some)]
    exact if_pos ((newScan_complete s).2 some)

/-! ### One read (R4 to R8) -/

section Read

variable {i : Probe} {out : ReadOutcome}

theorem waitingFor_of (ready : s.phase = .ready) (scan : s.scanner.scan = some x) (waits : x.reads.get i = .waiting) :
    s.waitingFor i = some x := by
  unfold State.waitingFor
  rw [if_pos ready, scan]
  simp [Option.filter, waits]

theorem addSample_eq (ring : List Sample) (x : Sample) :
    addSample ring x = ring.drop (if ring.length < 4 then 0 else 1) ++ [x] := by
  unfold addSample
  split_ifs <;> simp

theorem faulted_iff (q : Quality) : q.faulted = true ↔ q = .range ∨ q = .fault ∨ q = .silent := by
  cases q <;> simp [Quality.faulted]

theorem accepted_iff (q : Quality) : q.accepted = true ↔ q = .ok ∨ q = .confirmed := by
  cases q <;> simp [Quality.accepted]

theorem within_iff (j : Nat) (v w : Int) : within j v w = true ↔ (v - w).natAbs ≤ j := by simp [within]

/-- R5 and R6 for a raw value, with the jump limit spelled out. -/
theorem validate_raw (cfg : ProbeCfg) (a p : Option Int) (raw : Int) : validate cfg a p (.raw raw) =
    if raw < -880 ∨ 2000 < raw then (.range, none, a, none)
    else match a, p with
      | none, _ => (.ok, some (raw + cfg.trim), some (raw + cfg.trim), none)
      | some x, none =>
        if cfg.jump = 0 ∨ (raw + cfg.trim - x).natAbs ≤ cfg.jump then
          (.ok, some (raw + cfg.trim), some (raw + cfg.trim), none)
        else (.jump, some (raw + cfg.trim), some x, some (raw + cfg.trim))
      | some x, some y =>
        if cfg.jump = 0 then (.ok, some (raw + cfg.trim), some (raw + cfg.trim), none)
        else if (raw + cfg.trim - y).natAbs ≤ cfg.jump then
          (.confirmed, some (raw + cfg.trim), some (raw + cfg.trim), none)
        else if (raw + cfg.trim - x).natAbs ≤ cfg.jump then (.ok, some (raw + cfg.trim), some (raw + cfg.trim), none)
        else (.jump, some (raw + cfg.trim), some x, some (raw + cfg.trim)) := by
  unfold validate
  simp only [within_iff] <;> rfl

/-- The state that a validated sample leaves, with a given fault latch. -/
def State.readDone (s : State) (x : Scan) (i : Probe) (v : Quality × Option Int × Option Int × Option Int)
    (latch : Option FaultLatch) : State :=
  { s with
    scanner := { s.scanner with scan := some { x with
      reads := setAt x.reads i (.done (if v.1 = .ok ∨ v.1 = .confirmed then v.2.1 else none)) } }
    probes := setAt s.probes i
      { accepted := v.2.2.1, jumped := v.2.2.2
        ring := (s.probes.get i).ring.drop (if (s.probes.get i).ring.length < 4 then 0 else 1) ++ [⟨x.time, v.2.1, v.1⟩]
        latch := latch } }

theorem readDone_latch (v : Quality × Option Int × Option Int × Option Int) (old new : Option FaultLatch) :
    ((s.readDone x i v old).modProbe i fun y => { y with latch := new }) = s.readDone x i v new := by
  unfold State.modProbe State.readDone modAt
  dsimp only
  rw [setAt_setAt, get_setAt_self]

theorem latchFault_readDone (v : Quality × Option Int × Option Int × Option Int) (old : Option FaultLatch) (q : Quality)
    (time : Time) : (s.readDone x i v old).latchFault i q time = match old with
      | none => (s.readDone x i v (some ⟨q, time, 1⟩)).post (.probeFault i q time)
      | some l => s.readDone x i v (some { l with count := min (l.count + 1) 255 }) := by
  have latch : ((s.readDone x i v old).probes.get i).latch = old := by
    unfold State.readDone
    rw [get_setAt_self]
  unfold State.latchFault
  rw [latch]
  cases old with
  | none => exact congrArg (State.post · _) (readDone_latch v none _)
  | some l =>
    dsimp only
    rw [readDone_latch, satAdd_succ]
    rfl

theorem completeRead_sampled {v : Quality × Option Int × Option Int × Option Int}
    (valid : validate (x.probes.get i) (s.probes.get i).accepted (s.probes.get i).jumped out = v) :
    s.completeRead x i out = if v.1.faulted then
        (s.readDone x i v (s.probes.get i).latch).latchFault i v.1 x.time
      else s.readDone x i v (s.probes.get i).latch := by
  subst valid
  unfold State.completeRead State.readDone
  simp only [← accepted_iff, ← addSample_eq]
  rfl

/-- The fault latch after a sample of quality `q` (R8). -/
def FaultLatch.after (old : Option FaultLatch) (q : Quality) (time : Time) : Option FaultLatch :=
  if q = .range ∨ q = .fault ∨ q = .silent then some (match old with
    | none => ⟨q, time, 1⟩
    | some l => { l with count := min (l.count + 1) 255 }) else old

theorem completeRead_eq {v : Quality × Option Int × Option Int × Option Int}
    (valid : validate (x.probes.get i) (s.probes.get i).accepted (s.probes.get i).jumped out = v) :
    s.completeRead x i out =
      if (v.1 = .range ∨ v.1 = .fault ∨ v.1 = .silent) ∧ (s.probes.get i).latch = none then
        (s.readDone x i v (FaultLatch.after (s.probes.get i).latch v.1 x.time)).post (.probeFault i v.1 x.time)
      else s.readDone x i v (FaultLatch.after (s.probes.get i).latch v.1 x.time) := by
  rw [completeRead_sampled valid]
  by_cases faulted : v.1 = .range ∨ v.1 = .fault ∨ v.1 = .silent
  · rw [if_pos ((faulted_iff _).2 faulted), latchFault_readDone]
    unfold FaultLatch.after
    rw [if_pos faulted]
    cases (s.probes.get i).latch with
    | none => exact (if_pos ⟨faulted, rfl⟩).symm
    | some l => exact (if_neg fun h => Option.some_ne_none _ h.2).symm
  · unfold FaultLatch.after
    rw [if_neg (mt (faulted_iff _).1 faulted), if_neg fun h => faulted h.1, if_neg faulted]

end Read

/-! ### The governing readings (R11, R12) -/

section Govern

variable (x) (c : Comp) (k : CompScan)

theorem values_eq (role : ProbeRole) : x.values c role = (List.finRange 8).filterMap fun i : Probe =>
    if (x.probes.get i).enabled = true ∧ (x.probes.get i).comp = c ∧ (x.probes.get i).role = role then
      (match x.reads.get i with
        | .done v => v
        | _ => none) else none := by
  unfold Scan.values
  refine congrArg (fun f => List.filterMap f (List.finRange 8)) (funext fun i => ?_)
  simp only [Bool.and_eq_true, beq_iff_eq, and_assoc] <;> rfl

/-- The compartment keeps the reading that is delivered. -/
theorem govern_latest : (x.govern c k).2.latest = some (x.govern c k).1 := by
  unfold Scan.govern
  dsimp only
  split
  · rfl
  split
  · rfl
  split <;> rfl

theorem govern_comp : (x.govern c k).1.comp = c ∧ (x.govern c k).1.time = x.time := by
  unfold Scan.govern
  dsimp only
  split
  · exact ⟨rfl, rfl⟩
  split
  · exact ⟨rfl, rfl⟩
  split <;> exact ⟨rfl, rfl⟩

/-- What a compartment keeps after its reading (R11, R12). -/
theorem govern_kept : (x.govern c k).2 =
    match warmest (x.values c .product), warmest (x.values c .air), k.lastLive with
    | some v, _, _ => ⟨some v, 0, some ⟨c, x.time, x.steps.get c, some v, .liveProduct⟩⟩
    | none, some v, _ => ⟨some v, 0, some ⟨c, x.time, x.steps.get c, some v, .liveAir⟩⟩
    | none, none, some v => ⟨some v, min (k.noLive + 1) 255, some ⟨c, x.time, x.steps.get c, some v,
        if min (k.noLive + 1) 255 ≤ x.hold.get c then .held else .blind⟩⟩
    | none, none, none => ⟨none, k.noLive, some ⟨c, x.time, x.steps.get c, none, .noSource⟩⟩ := by
  unfold Scan.govern
  rw [satAdd_succ]
  cases warmest (x.values c .product) with
  | some v => rfl
  | none =>
    cases warmest (x.values c .air) with
    | some v => rfl
    | none =>
      obtain ⟨lastLive, noLive, latest⟩ := k
      cases lastLive <;> rfl

end Govern

theorem readings_eq (s : State) (x : Scan) : s.readings x = (List.finRange 4).filterMap fun c : Comp =>
    if x.enabled.get c = true then ((s.governAll x).comps.get c).latest else none := by
  unfold State.readings
  rw [← List.filterMap_eq_map, List.filterMap_filter]
  refine congrArg (fun f => List.filterMap f (List.finRange 4)) (funext fun c => ?_)
  by_cases on : x.enabled.get c = true
  · simp only [on, if_true, State.governAll, get_ofFn, Function.comp, govern_latest]
  · simp only [on]
    rfl

theorem mem_readings {r : Reading} (mem : r ∈ s.readings x) : x.enabled.get r.comp = true ∧ r.time = x.time := by
  unfold State.readings at mem
  obtain ⟨c, on, rfl⟩ := List.mem_map.1 mem
  obtain ⟨comp, time⟩ := govern_comp x c (s.comps.get c)
  rw [comp]
  exact ⟨(List.mem_filter.1 on).2, time⟩

theorem reading_of_enabled {c : Comp} (on : x.enabled.get c = true) : c ∈ (s.readings x).map Reading.comp := by
  unfold State.readings
  rw [List.map_map]
  exact List.mem_map.2 ⟨c, List.mem_filter.2 ⟨List.mem_finRange c, on⟩, (govern_comp x c _).1⟩

/-! ### What the delivery of readings leaves (R14) -/

/-- A lot whose compartment is in `joined` has joined, and its account alone may change, which takes an accounting lot
of a compartment in `charged`. -/
def Lot.delivered (charged joined : List Comp) (l m : Lot) : Prop :=
  ∃ a, m = { l with joined := l.joined || joined.contains l.comp, acct := a } ∧
    (l.accounting = false ∨ l.comp ∉ charged → a = l.acct)

/-- State `t` follows from `s` by readings of the compartments in `watched`, taken by the Excursion Watch, and in
`charged`, taken by the Exposure Accountant. -/
structure Delivered (watched charged : List Comp) (s t : State) : Prop where
  scanner : t.scanner = s.scanner
  watches : ∀ c ∉ watched, t.watches.get c = s.watches.get c
  defrosts : ∀ c ∉ charged, t.defrosts.get c = s.defrosts.get c
  bases : ∀ c ∉ charged, t.bases.get c = s.bases.get c
  based : ∀ x, s.scanner.scan = some x → ∀ c ∈ charged, (t.bases.get c).base = some (x.time + x.shift)
  lots : ∀ i, Option.Rel (Lot.delivered (watched ++ charged) charged) (s.lots.get i) (t.lots.get i)

section Delivery

variable {watched watched' charged charged' : List Comp} {l m n : Lot}

theorem Lot.delivered_of_acct {joined : List Comp} (a : Account) (quiet : joined.contains l.comp = false)
    (kept : l.accounting = false ∨ l.comp ∉ charged → a = l.acct) : l.delivered charged joined { l with acct := a } :=
  ⟨a, by rw [quiet, Bool.or_false], kept⟩

theorem Lot.delivered.trans (first : l.delivered (watched ++ charged) charged m)
    (second : m.delivered (watched' ++ charged') charged' n) :
    l.delivered (watched ++ watched' ++ (charged ++ charged')) (charged ++ charged') n := by
  obtain ⟨a, rfl, kept⟩ := first
  obtain ⟨b, rfl, kept'⟩ := second
  refine ⟨b, by simp [Bool.or_assoc], fun quiet => ?_⟩
  have calm : (l.accounting = false ∨ l.comp ∉ watched ++ charged) ∧
      (l.accounting = false ∨ l.comp ∉ watched' ++ charged') := by
    simp only [List.mem_append, not_or] at quiet ⊢
    tauto
  exact (kept' calm.2).trans (kept calm.1)

theorem Lot.delivered.mono {joined : List Comp} (h : l.delivered charged joined m) (more : charged ⊆ charged') :
    l.delivered charged' joined m := by
  obtain ⟨a, rfl, kept⟩ := h
  exact ⟨a, rfl, fun quiet => kept (quiet.imp_right fun out mem => out (more mem))⟩

theorem lots_delivered {joined : List Comp} {f : Lot → Lot}
    (h : ∀ l : Lot, l.delivered charged joined (f l)) (o : Option Lot) :
    Option.Rel (Lot.delivered charged joined) o (o.map f) := by
  cases o with
  | none => exact .none
  | some l => exact .some (h l)

theorem Delivered.refl (s : State) : Delivered [] [] s s where
  scanner := rfl
  watches _ _ := rfl
  defrosts _ _ := rfl
  bases _ _ := rfl
  based _ _ c mem := absurd mem List.not_mem_nil
  lots i := by
    cases s.lots.get i with
    | none => exact .none
    | some l => exact .some (Lot.delivered_of_acct l.acct rfl fun _ => rfl)

theorem Delivered.trans (first : Delivered watched charged s t) (second : Delivered watched' charged' t u) :
    Delivered (watched ++ watched') (charged ++ charged') s u where
  scanner := second.scanner.trans first.scanner
  watches c out := by
    obtain ⟨left, right⟩ := not_or.1 (mt List.mem_append.2 out)
    exact (second.watches c right).trans (first.watches c left)
  defrosts c out := by
    obtain ⟨left, right⟩ := not_or.1 (mt List.mem_append.2 out)
    exact (second.defrosts c right).trans (first.defrosts c left)
  bases c out := by
    obtain ⟨left, right⟩ := not_or.1 (mt List.mem_append.2 out)
    exact (second.bases c right).trans (first.bases c left)
  based x scan c mem := by
    by_cases late : c ∈ charged'
    · exact second.based x (first.scanner ▸ scan) c late
    · rw [second.bases c late]
      exact first.based x scan c ((List.mem_append.1 mem).resolve_right late)
  lots i := by
    have left := first.lots i
    have right := second.lots i
    revert left right
    generalize s.lots.get i = a
    generalize t.lots.get i = b
    generalize u.lots.get i = c
    rintro (⟨left⟩ | _) (⟨right⟩ | _)
    · exact .some (left.trans right)
    · exact .none

theorem Delivered.mono (h : Delivered watched charged s t) (more : watched ⊆ watched') :
    Delivered watched' charged s t where
  scanner := h.scanner
  watches c out := h.watches c (mt (@more c) out)
  defrosts := h.defrosts
  bases := h.bases
  based := h.based
  lots i := by
    have left := h.lots i
    revert left
    generalize s.lots.get i = a
    generalize t.lots.get i = b
    rintro (⟨left⟩ | _)
    · exact .some (left.mono (List.append_subset.2 ⟨fun c mem => List.mem_append_left _ (more mem),
        List.subset_append_right _ _⟩))
    · exact .none

/-- A change that leaves scanner, allowances, bases and lots alone. -/
theorem delivered_of_watches {watched : List Comp} (scanner : t.scanner = s.scanner)
    (watches : ∀ c ∉ watched, t.watches.get c = s.watches.get c) (defrosts : t.defrosts = s.defrosts)
    (bases : t.bases = s.bases) (lots : t.lots = s.lots) : Delivered watched [] s t where
  scanner := scanner
  watches := watches
  defrosts c _ := by rw [defrosts]
  bases c _ := by rw [bases]
  based _ _ c mem := absurd mem List.not_mem_nil
  lots i := by
    rw [lots]
    cases s.lots.get i with
    | none => exact .none
    | some l => exact .some (Lot.delivered_of_acct l.acct rfl fun _ => rfl)

theorem modWatch_delivered (s : State) (c : Comp) (f : Watch → Watch) : Delivered [c] [] s (s.modWatch c f) :=
  delivered_of_watches rfl (fun d out => by
    unfold State.modWatch
    rw [get_modAt, if_neg fun same => out (by rw [same]; exact List.mem_singleton_self c)]) rfl rfl rfl

theorem post_delivered (s : State) (b : NoticeBody) : Delivered [] [] s (s.post b) :=
  delivered_of_watches rfl (fun _ _ => rfl) rfl rfl rfl

theorem chargeExcursion_delivered (s : State) (c : Comp) : Delivered [c] [] s (s.mapLots fun l =>
    if l.accountingIn c then { l with acct := { l.acct with excursions := satAdd 8 l.acct.excursions 1 } } else l) where
  scanner := rfl
  watches _ _ := rfl
  defrosts _ _ := rfl
  bases _ _ := rfl
  based _ _ c mem := absurd mem List.not_mem_nil
  lots i := by
    unfold State.mapLots
    rw [get_mapV]
    refine lots_delivered (fun l => ?_) _
    by_cases counts : l.accountingIn c = true
    · rw [if_pos counts]
      refine Lot.delivered_of_acct _ rfl fun quiet => ?_
      simp only [Lot.accountingIn, Bool.and_eq_true, beq_iff_eq] at counts
      rcases quiet with idle | out
      · exact absurd counts.1 (by rw [idle]; exact Bool.false_ne_true)
      · exact absurd (by rw [counts.2]; exact List.mem_cons_self) out
    · rw [if_neg counts]
      exact Lot.delivered_of_acct l.acct rfl fun _ => rfl

theorem openExcursion_delivered (s : State) (r : Reading) (side : Side) (v : Int) (hits : Nat) :
    Delivered [r.comp] [] s (s.openExcursion r side v hits) := by
  have opened := (modWatch_delivered s r.comp fun w => { w with
    state := .excursion, hits := hits, clears := 0
    armed := if (s.settings.comps.get r.comp).mode = .firstOnly then false else w.armed
    list := addExcursion w.list ⟨r.time, side, v, hits, none,
      (s.watches.get r.comp).announces (s.settings.comps.get r.comp)⟩ }).trans (chargeExcursion_delivered _ r.comp)
  unfold State.openExcursion
  dsimp only
  split
  · exact (opened.trans (post_delivered _ _)).mono (by simp)
  · exact opened.mono (by simp)

theorem closeExcursion_delivered (s : State) (r : Reading) : Delivered [r.comp] [] s (s.closeExcursion r) := by
  have closed := modWatch_delivered s r.comp fun w => { w with
    state := .normal, hits := 0, clears := 0, list := modLast (fun e => { e with finish := some r.time }) w.list }
  unfold State.closeExcursion
  dsimp only
  split
  · split
    · exact closed.trans (post_delivered _ _)
    · exact closed
  · exact closed

theorem watchHit_delivered (s : State) (r : Reading) (side : Side) (v : Int) :
    Delivered [r.comp] [] s (s.watchHit r side v) := by
  have calm (hits : Nat) : Delivered [r.comp] [] s
      (if (s.settings.comps.get r.comp).trigger ≤ hits then s.openExcursion r side v hits
      else s.modWatch r.comp fun w => { w with state := .suspect, hits := hits }) := by
    split
    · exact openExcursion_delivered s r side v hits
    · exact modWatch_delivered s _ _
  unfold State.watchHit
  dsimp only
  split
  · exact calm _
  · exact calm _
  all_goals exact modWatch_delivered s _ _

theorem watchInBand_delivered (s : State) (r : Reading) : Delivered [r.comp] [] s (s.watchInBand r) := by
  have busy (clears : Nat) : Delivered [r.comp] [] s
      (if (s.settings.comps.get r.comp).clear ≤ clears then s.closeExcursion r
      else s.modWatch r.comp fun w => { w with state := .recovering, clears := clears }) := by
    split
    · exact closeExcursion_delivered s r
    · exact modWatch_delivered s _ _
  unfold State.watchInBand
  dsimp only
  split
  · exact (Delivered.refl s).mono (by simp)
  · exact modWatch_delivered s _ _
  all_goals exact busy _

theorem watchReading_delivered (s : State) (r : Reading) : Delivered [r.comp] [] s (s.watchReading r) := by
  have none : Delivered [r.comp] [] s s := (Delivered.refl s).mono (by simp)
  unfold State.watchReading
  split
  · exact none
  split
  · exact none
  split
  · exact watchInBand_delivered s r
  · exact watchHit_delivered s r _ _
  · split
    · exact modWatch_delivered s _ _
    · exact watchHit_delivered s r _ _

/-- A lot is first charged, if it is accounting in the compartment, and then joins (R66, R68). -/
theorem join_delivered {c : Comp} {f : Lot → Lot} (h : ∀ l, ∃ a, f l = { l with acct := a } ∧
      (l.accounting = false ∨ l.comp ≠ c → a = l.acct)) (l : Lot) :
    l.delivered [c] [c] (if (f l).comp = c then { f l with joined := true } else f l) := by
  obtain ⟨a, charged, kept⟩ := h l
  rw [charged]
  refine ⟨a, ?_, fun quiet => kept (quiet.imp_right fun out same => out (by rw [same]; exact List.mem_cons_self))⟩
  by_cases here : l.comp = c
  · rw [if_pos here]
    simp [here]
  · rw [if_neg here]
    simp [here]

/-- What a reading does before the lots of its compartment join. -/
structure Charges (s : State) (c : Comp) (now : Time) (f : Lot → Lot) (t : State) : Prop where
  scanner : t.scanner = s.scanner
  watches : t.watches = s.watches
  defrosts : ∀ d ≠ c, t.defrosts.get d = s.defrosts.get d
  bases : ∀ d ≠ c, t.bases.get d = s.bases.get d
  base : (t.bases.get c).base = some now
  lots : ∀ i, t.lots.get i = (s.lots.get i).map f
  account : ∀ l, ∃ a, f l = { l with acct := a } ∧ (l.accounting = false ∨ l.comp ≠ c → a = l.acct)

theorem takeStep_charges (s : State) (r : Reading) (d : Nat) :
    Charges s r.comp (s.readingTime r) (s.lotAfterStep r d) (s.takeStep r d) where
  scanner := by rw [State.takeStep_eq]
  watches := by rw [State.takeStep_eq]
  defrosts _ other := (s.takeStep_other r d other).1
  bases _ other := (s.takeStep_other r d other).2
  base := congrArg StepBase.base (s.takeStep_base r d)
  lots := s.takeStep_lot r d
  account l := by
    unfold State.lotAfterStep
    by_cases counts : l.accounting = true ∧ l.comp = r.comp ∧ l.joined = true
    · rw [if_pos counts]
      refine ⟨_, rfl, fun quiet => ?_⟩
      rcases quiet with idle | other
      · exact absurd counts.1 (by rw [idle]; exact Bool.false_ne_true)
      · exact absurd counts.2.1 other
    · rw [if_neg counts]
      exact ⟨l.acct, rfl, fun _ => rfl⟩

/-- The lot after a reading without a step length (R69). -/
def State.lotUnstepped (s : State) (r : Reading) (l : Lot) : Lot :=
  if l.accounting = true ∧ l.comp = r.comp ∧ l.joined = true then match (s.bases.get r.comp).base with
    | some b => { l with acct := { l.acct with unverified := satAdd 32 l.acct.unverified (span b (s.readingTime r)) } }
    | none => l
  else l

theorem takeUnstepped_charges (s : State) (r : Reading) :
    Charges s r.comp (s.readingTime r) (s.lotUnstepped r) (s.takeUnstepped r) where
  scanner := by rw [State.takeUnstepped_eq]
  watches := by rw [State.takeUnstepped_eq]
  defrosts _ _ := by rw [State.takeUnstepped_eq]
  bases _ other := by
    rw [State.takeUnstepped_eq]
    dsimp only
    rw [get_modAt, if_neg other]
  base := by
    rw [State.takeUnstepped_eq]
    dsimp only
    rw [get_modAt, if_pos rfl]
  lots i := by
    rw [State.takeUnstepped_eq]
    exact get_mapV _ _ _
  account l := by
    unfold State.lotUnstepped
    by_cases counts : l.accounting = true ∧ l.comp = r.comp ∧ l.joined = true
    · rw [if_pos counts]
      cases (s.bases.get r.comp).base with
      | none => exact ⟨l.acct, rfl, fun _ => rfl⟩
      | some b =>
        refine ⟨_, rfl, fun quiet => ?_⟩
        rcases quiet with idle | other
        · exact absurd counts.1 (by rw [idle]; exact Bool.false_ne_true)
        · exact absurd counts.2.1 other
    · rw [if_neg counts]
      exact ⟨l.acct, rfl, fun _ => rfl⟩

theorem Charges.join {c : Comp} {now : Time} {f : Lot → Lot} (h : Charges s c now f t)
    (time : ∀ x, s.scanner.scan = some x → now = x.time + x.shift) : Delivered [] [c] s (t.joinLots c) where
  scanner := h.scanner
  watches d _ := congrArg (fun v => Vector.get v d) h.watches
  defrosts d out := h.defrosts d (by simpa using out)
  bases d out := h.bases d (by simpa using out)
  based x scan d mem := by
    rw [List.mem_singleton.1 mem, ← time x scan]
    exact h.base
  lots i := by
    unfold State.joinLots State.mapLots
    rw [get_mapV, h.lots i, Option.map_map]
    exact lots_delivered (join_delivered h.account) _

theorem accountReading_delivered {r : Reading} (time : ∀ x, s.scanner.scan = some x → r.time = x.time) :
    Delivered [] [r.comp] s (s.accountReading r) := by
  have now (x : Scan) (scan : s.scanner.scan = some x) : s.readingTime r = x.time + x.shift := by
    unfold State.readingTime
    rw [scan]
    exact congrArg (· + x.shift) (time x scan)
  cases step : r.step with
  | some d =>
    rw [s.accountReading_of_step r step]
    exact (takeStep_charges s r d).join now
  | none =>
    rw [s.accountReading_of_no_step r step]
    exact (takeUnstepped_charges s r).join now

theorem watchReadings_delivered (rs : List Reading) (s : State) :
    Delivered (rs.map Reading.comp) [] s (rs.foldl State.watchReading s) := by
  induction rs generalizing s with
  | nil => exact Delivered.refl s
  | cons r rs ih => exact (watchReading_delivered s r).trans (ih _)

theorem accountReadings_delivered {rs : List Reading}
    (time : ∀ r ∈ rs, ∀ x, s.scanner.scan = some x → r.time = x.time) :
    Delivered [] (rs.map Reading.comp) s (rs.foldl State.accountReading s) := by
  induction rs generalizing s with
  | nil => exact Delivered.refl s
  | cons r rs ih =>
    have first := accountReading_delivered (time r List.mem_cons_self)
    refine first.trans (ih fun q mem x scan => ?_)
    exact time q (List.mem_cons_of_mem _ mem) x (by rw [← first.scanner]; exact scan)

end Delivery

/-! ### The completion of a scan (R14) -/

/-- What a whole scan may change of a lot: it joins, and its account changes, which takes an accounting lot of an
enabled compartment. -/
def Lot.settledBy (x : Scan) (l m : Lot) : Prop :=
  ∃ a, m = { l with joined := l.joined || x.enabled.get l.comp, acct := a } ∧
    (l.accounting = false ∨ x.enabled.get l.comp = false → a = l.acct)

theorem lots_settledBy {cs : List Comp} (enabled : ∀ c, c ∈ cs ↔ x.enabled.get c = true) {a b : Option Lot}
    (h : Option.Rel (Lot.delivered (cs ++ cs) cs) a b) : Option.Rel (Lot.settledBy x) a b := by
  rcases h with ⟨acct, rfl, kept⟩ | _
  · refine .some ⟨acct, ?_, fun quiet => kept (quiet.imp_right fun off mem => ?_)⟩
    · rw [Bool.eq_iff_iff.2 (List.contains_iff_mem.trans (enabled _))]
    · have on := (enabled _).1 ((List.mem_append.1 mem).elim id id)
      exact Bool.false_ne_true (off.symm.trans on)
  · exact .none

/-- The Excursion Watch takes the readings whose bit in the command is `first`. -/
def watchAt (w : BitVec 4) (first : Bool) (rs : List Reading) (u : State) : State :=
  (rs.filter fun r => w.getLsbD r.comp.val == first).foldl State.watchReading u

/-- All readings delivered to both blocks. -/
def State.deliver (w : BitVec 4) (rs : List Reading) (u : State) : State :=
  watchAt w false rs (rs.foldl State.accountReading (watchAt w true rs u))

theorem deliver_delivered {w : BitVec 4} {rs : List Reading}
    (time : ∀ r ∈ rs, ∀ x, s.scanner.scan = some x → r.time = x.time) :
    Delivered (rs.map Reading.comp) (rs.map Reading.comp) s (s.deliver w rs) := by
  have early := watchReadings_delivered (rs.filter fun r => w.getLsbD r.comp.val == true) s
  have charged := accountReadings_delivered (s := watchAt w true rs s) (rs := rs) fun r mem x scan =>
    time r mem x (by rw [← early.scanner]; exact scan)
  have late := watchReadings_delivered (rs.filter fun r => w.getLsbD r.comp.val == false)
    (rs.foldl State.accountReading (watchAt w true rs s))
  have all := (early.trans charged).trans late
  simp only [List.nil_append, List.append_nil] at all
  refine all.mono ?_
  exact List.append_subset.2 ⟨List.map_subset _ (List.filter_subset_self _),
    List.map_subset _ (List.filter_subset_self _)⟩

theorem deliver_keeps (w : BitVec 4) (rs : List Reading) (s : State) :
    keeps [.watches, .lots, .ports, .defrosts, .bases] s (s.deliver w rs) := by
  have watched (t : State) (rs : List Reading) : keeps [.watches, .lots, .ports] t (rs.foldl State.watchReading t) :=
    keeps.foldl watchReading_keeps rs t
  exact ((watched _ _).andThen (keeps.foldl accountReading_keeps rs _)
    (zs := [.watches, .lots, .ports, .defrosts, .bases]) (by simp)).andThen (watched _ _) (by simp)

theorem completeScan_eq (w : BitVec 4) (scan : s.scanner.scan = some x) : s.completeScan x w =
    { ((s.governAll x).deliver w (s.readings x)).post (.scanSummary (s.readings x)) with
      scanner := { s.scanner with scan := none } } := by
  have kept : ((s.governAll x).deliver w (s.readings x)).scanner = s.scanner :=
    (deliver_delivered fun r mem y same => by
      obtain rfl : x = y := Option.some.inj (scan.symm.trans same)
      exact (mem_readings mem).2).scanner
  rw [← kept]
  unfold State.completeScan State.deliver watchAt
  simp only [beq_true, beq_false]
  rfl

end Sys2Proof.Machine

namespace Sys2Proof.Proofs

open Sys2Proof.Machine

/-- Settles O47: what a scan copies, and when it completes at its start. -/
theorem scanStart : Obligations.ScanStart := by
  intro s ready idle due enabled
  refine ⟨s.newScan, rfl, rfl, rfl, rfl, rfl, rfl, fun c => ⟨?_, ?_⟩, fun i => ?_, ?_⟩
  · simp [State.newScan]
  · simp only [State.newScan, get_ofFn, Bool.and_eq_true]
    rfl
  · simp [State.newScan]
  · intro t
    change Host.Outcome.next (Machine.scanStart s) = _
    rw [scanStart_eq ready idle due]
    split <;> rfl

/-- Settles O48: what a read makes of its answer. -/
theorem probeRead : Obligations.ProbeRead := by
  intro i x answer s ready scan waits cfg old near sample read silent
  have waiting := waitingFor_of ready scan waits
  have silenced : s.completeRead x i .silent = silent := completeRead_eq rfl
  refine ⟨?_, rfl, ?_⟩
  · change Host.Outcome.next (probeReadCompletion i answer s) = _
    unfold probeReadCompletion
    rw [waiting]
    unfold readOutcome
    dsimp only
    by_cases late : 1000 ≤ x.age
    · rw [if_pos late, if_pos late, silenced]
    · rw [if_neg late, if_neg late]
      refine congrArg _ (completeRead_eq ?_)
      cases answer with
      | fault => rfl
      | value raw => exact validate_raw cfg old.accepted old.jumped raw
  · change Host.Outcome.next (readTimeout i s) = _
    unfold readTimeout
    rw [waiting]
    dsimp only
    rw [silenced]

/-- Settles O49: the governing readings, their delivery, and what a scan leaves. -/
theorem scanCompletion : Obligations.ScanCompletion := by
  intro w x s ready scan done
  have whole := completeScan_eq w scan
  have comps : (s.completeScan x w).comps = (s.governAll x).comps := by
    rw [whole]
    exact deliver_keeps w (s.readings x) (s.governAll x) .comps (by simp)
  have delivered : Delivered ((s.readings x).map Reading.comp) ((s.readings x).map Reading.comp) (s.governAll x)
      ((s.governAll x).deliver w (s.readings x)) := deliver_delivered fun r mem y same => by
    obtain rfl : x = y := Option.some.inj (scan.symm.trans same)
    exact (mem_readings mem).2
  have enabled (c : Comp) : c ∈ (s.readings x).map Reading.comp ↔ x.enabled.get c = true := by
    refine ⟨fun mem => ?_, reading_of_enabled⟩
    obtain ⟨r, read, rfl⟩ := List.mem_map.1 mem
    exact (mem_readings read).1
  have lot (i : Slot) : Option.Rel (Lot.settledBy x) (s.lots.get i) ((s.completeScan x w).lots.get i) := by
    rw [whole]
    exact lots_settledBy enabled (delivered.lots i)
  refine ⟨s.completeScan x w, ?_, ?_, ?_, fun c => ?_, fun i => ?_, fun i l holds quiet => ?_⟩
  · change Host.Outcome.next (Machine.scanCompletion w s) = _
    unfold Machine.scanCompletion
    rw [if_pos ready, scan]
    exact congrArg _ (if_pos ((complete_iff x).2 done))
  · have scanner : (s.completeScan x w).scanner = { s.scanner with scan := none } := by rw [whole]
    rw [← scanner]
    exact eq_withChanged (completeScan_keeps s x w)
  · intro readings watch later
    have rs : s.readings x = readings := by rw [readings_eq, ← comps]
    have start : s.governAll x = { s with comps := (s.completeScan x w).comps } := by
      rw [comps]
      rfl
    have both : (s.governAll x).deliver w readings = later := congrArg (State.deliver w readings) start
    rw [rs, both] at whole
    exact whole
  · intro best old reading
    by_cases off : x.enabled.get c = false
    · rw [if_pos off, comps, whole]
      have out : c ∉ (s.readings x).map Reading.comp := fun mem =>
        Bool.false_ne_true (off.symm.trans ((enabled c).1 mem))
      refine ⟨?_, delivered.watches c out, delivered.defrosts c out, delivered.bases c out⟩
      simp [State.governAll, off]
      rfl
    · rw [if_neg off, comps, whole]
      have on : x.enabled.get c = true := by simpa using off
      refine ⟨?_, delivered.based x scan c ((enabled c).2 on)⟩
      unfold State.governAll
      dsimp only
      rw [get_ofFn, if_pos on, govern_kept, values_eq, values_eq]
      rfl
  · have after := lot i
    revert after
    generalize s.lots.get i = a
    generalize (s.completeScan x w).lots.get i = b
    rintro (⟨acct, rfl, -⟩ | _) <;> rfl
  · have after := lot i
    rw [holds] at after
    revert after
    generalize (s.completeScan x w).lots.get i = b
    rintro (⟨acct, rfl, kept⟩)
    rw [kept quiet]

end Sys2Proof.Proofs
end

section
/-!
PROOF. The layouts of section 12 and the requests that only report.
-/
namespace Sys2Proof.Machine

variable {s : State}

/-! ### Fields (R182) -/

/-- A byte of a field is a digit of its number. -/
theorem extract_byte {w n : Nat} (k : Nat) (inside : k + 8 ≤ w) :
    (BitVec.ofNat w n).extractLsb' k 8 = BitVec.ofNat 8 (n / 2 ^ k) := by
  refine BitVec.eq_of_getLsbD_eq fun i below => ?_
  rw [BitVec.getLsbD_extractLsb', BitVec.getLsbD_ofNat, BitVec.getLsbD_ofNat, Nat.testBit_div_two_pow]
  simp [below, show k + i < w by omega, Nat.add_comm]

theorem u16_split (n : Nat) : u16 n = [BitVec.ofNat 8 (n / 2 ^ 8), BitVec.ofNat 8 n] := by
  rw [u16_bytes, extract_byte 8 (by omega), extract_byte 0 (by omega), pow_zero, Nat.div_one]

theorem u32_split (n : Nat) : u32 n =
    [BitVec.ofNat 8 (n / 2 ^ 24), BitVec.ofNat 8 (n / 2 ^ 16), BitVec.ofNat 8 (n / 2 ^ 8), BitVec.ofNat 8 n] := by
  rw [u32_bytes, extract_byte 24 (by omega), extract_byte 16 (by omega), extract_byte 8 (by omega),
    extract_byte 0 (by omega), pow_zero,
    Nat.div_one]

theorem halfBytes_eq (x : Half) : halfBytes x = u16 x.toNat := by
  unfold u16
  rw [BitVec.ofNat_toNat, BitVec.setWidth_eq]

theorem wordBytes_eq (x : Word) : wordBytes x = u32 x.toNat := by
  unfold u32
  rw [BitVec.ofNat_toNat, BitVec.setWidth_eq]

theorem t16_eq (t : Int) : t16 t = u16 (t % 65536).toNat := by
  unfold t16 u16
  congr 1
  refine BitVec.eq_of_toNat_eq ?_
  rw [BitVec.toNat_ofInt, BitVec.toNat_ofNat]
  omega

theorem t16_natCast (n : Nat) : t16 n = u16 n := by
  unfold t16 u16
  rw [BitVec.ofInt_natCast]

theorem fieldLayouts_holds : fieldLayouts :=
  ⟨fun n => ⟨rfl, u16_split n, u32_split n⟩, halfBytes_eq, fun x => ⟨wordBytes_eq x, wordBytes_eq x⟩,
    fun t => ⟨t16_eq t, rfl⟩, rfl, fun _ => rfl, rfl, fun _ => rfl, fun _ _ _ _ _ => ⟨rfl, rfl, rfl⟩⟩

theorem codeLayouts_holds : codeLayouts := by
  unfold codeLayouts
  decide

theorem entryLayouts_holds : entryLayouts := by
  refine ⟨fun _ => rfl, fun _ => rfl, fun c => ?_, fun _ => rfl, fun _ => rfl, fun _ => rfl⟩
  unfold ProbeCfg.bytes
  rw [t16_natCast]

/-! ### Records (R184) -/

/-- The bits of a proof record's flags. -/
theorem proofFlags (a u : Bool) (e : Option EReason) :
    let flags : Byte := BitVec.ofNat 8 ((if a then 128 else 0) + eBits e + if u then 8 else 0)
    flags.getLsbD 7 = a ∧ flags.getLsbD 5 = e.isSome ∧ flags.getLsbD 4 = (e == some .copyMismatch) ∧
      flags.getLsbD 3 = u ∧ flags &&& 0x47 = 0 := by
  rcases e with - | ⟨- | -⟩ <;> revert a u <;> decide

theorem Account.bytes_eq (a : Account) : a.bytes =
    u32 a.dose ++ u32 a.waived ++ [if a.warm then (if a.saturated then 3 else 2) else if a.saturated then 1 else 0]
      ++ u8 a.shocks ++ u32 a.unverified ++ u32 a.airSecs ++ u32 a.doorSecs ++ tempBytes a.peak ++ u8 a.excursions
      ++ u8 a.openings ++ u8 a.gaps := by
  unfold Account.bytes
  cases a.warm <;> cases a.saturated <;> rfl

theorem Ask.bytes_eq (a : Ask) : a.bytes =
    timeBytes a.time ++ flag a.deferred.isSome ++ opt 1 (fun r : DeferReason => u8 r.code) a.deferred := by
  unfold Ask.bytes
  cases a.deferred <;> rfl

theorem StepRecord.bytes_eq (r : StepRecord) : r.bytes =
    timeBytes r.time ++ u16 r.d ++ u16 r.o ++ u8 r.source.code ++ tempBytes r.temp ++ flag (!r.waived) ++ u8 r.lots := by
  unfold StepRecord.bytes
  cases r.waived <;> rfl

theorem listedHandoff_of {j : HIndex} {h : Handoff} (holds : s.handoffs.get j = some h) :
    s.listedHandoff j = u8 j.val ++ u8 h.stop.val ++ u8 h.state.code ++ u16 h.q := by
  unfold State.listedHandoff
  rw [holds]
  rfl

theorem Claim.fetchBody_of {c : Claim} {v : Verdict} {x : Figures} {t : Time} (verdict : c.verdict = some v)
    (figures : c.figures = some x) (time : c.decideTime = some t) : c.fetchBody =
      u16 c.number ++ u8 c.handoff.val ++ wordBytes c.lot ++ wordBytes c.claimant ++ u16 c.quantity
        ++ timeBytes c.lodgeTime ++ timeBytes t ++ u8 v.code ++ opt 1 (fun r : Referral => u8 r.code) c.reason
        ++ u32 x.totalDm ++ u32 x.depotDm ++ u32 x.carrierDm ++ u8 x.shocks ++ u32 x.unverified ++ flag c.fetched := by
  unfold Claim.fetchBody
  rw [verdict, figures, time]
  simp [Figures.bytes]

theorem recordLayouts_holds : recordLayouts := by
  refine ⟨Account.bytes_eq, fun x => ⟨_, rfl, proofFlags x.a x.unplanned x.e⟩, fun _ => rfl, fun _ => rfl, fun _ => rfl,
    fun _ => rfl, fun _ => rfl, rfl, fun _ => rfl, fun _ => rfl, Ask.bytes_eq, StepRecord.bytes_eq, fun _ => rfl, rfl,
    fun _ => rfl, fun _ _ => ⟨rfl, rfl, rfl⟩, fun _ _ _ => listedHandoff_of, fun _ => rfl,
    fun _ _ _ _ => Claim.fetchBody_of⟩

/-! ### The lists and sums in the bodies -/

theorem lotsFrom_sorted (s : State) (first : Nat) : ((s.lotsFrom first).map Prod.fst).Pairwise (fun i j => i < j) := by
  unfold State.lotsFrom
  rw [List.pairwise_map, List.pairwise_filterMap]
  refine (List.pairwise_lt_finRange 64).imp fun {i j} below x hx y hy => ?_
  have fst {k : Slot} {e : Slot × Lot}
      (h : (if first ≤ k.val then (s.lots.get k).map fun l => (k, l) else none) = some e) :
      e.1 = k := by
    split at h
    · obtain ⟨l, -, rfl⟩ := Option.map_eq_some_iff.1 h
      rfl
    · cases h
  rw [fst hx, fst hy]
  exact below

theorem mem_lotsFrom {first : Nat} {i : Slot} {l : Lot} :
    (i, l) ∈ s.lotsFrom first ↔ first ≤ i.val ∧ s.lots.get i = some l := by
  unfold State.lotsFrom
  rw [List.mem_filterMap]
  constructor
  · rintro ⟨k, -, h⟩
    split at h
    next le =>
      obtain ⟨m, holds, same⟩ := Option.map_eq_some_iff.1 h
      obtain ⟨rfl, rfl⟩ := Prod.mk.inj same
      exact ⟨le, holds⟩
    next => cases h
  · rintro ⟨le, holds⟩
    exact ⟨i, List.mem_finRange i, by rw [if_pos le, holds]; rfl⟩

theorem acceptedAt_eq (s : State) (offers : List HIndex) (lot : Word) : s.acceptedAt offers lot =
    (offers.map fun j => match s.handoffs.get j with
      | some h => if (s.lots.get h.slot).any (fun l => l.number == lot) = true then h.accepted else 0
      | none => 0).sum := by
  unfold State.acceptedAt
  refine congrArg (fun f => (offers.map f).sum) (funext fun j => ?_)
  cases s.handoffs.get j with
  | none => rfl
  | some h =>
    dsimp only
    cases s.lots.get h.slot with
    | none => rfl
    | some l => simp

theorem currentStop_opt (s : State) (f : Stop → List Byte) (k : Nat) :
    opt k (fun x : StopNo × Stop => f x.2) s.currentStop =
      opt k f (s.route.openStop.bind fun n => s.stops.get n) := by
  unfold State.currentStop
  cases s.route.openStop with
  | none => rfl
  | some n =>
    dsimp only [Option.bind_some]
    cases s.stops.get n <;> rfl

theorem doorPart_eq (c : Comp) (s : State) : doorPart c s =
    u8 (s.doors.get c).state.code ++ flag (s.doors.get c).latch.isSome ++ (match (s.doors.get c).latch with
      | some l => u8 l.unreported
      | none => [0]) := by
  unfold doorPart
  dsimp only
  cases (s.doors.get c).latch <;> rfl

theorem exposurePart_eq (c : Comp) (s : State) : exposurePart c s =
    opt 4 timeBytes (s.bases.get c).base ++ wordBytes ((s.doors.get c).openTotal - (s.bases.get c).mark)
      ++ opt 13 StepRecord.bytes (s.bases.get c).last
      ++ u8 (s.lots.toList.countP fun o => o.any fun l => l.accounting && l.comp == c)
      ++ u8 (s.lots.toList.countP fun o => o.any fun l => (l.accounting && l.comp == c) && l.joined) := by
  unfold exposurePart
  simp only [countLots_eq]
  rfl

theorem routePart_eq (s : State) : routePart s =
    opt 2 halfBytes s.route.number ++ u8 s.route.state.code ++ opt 4 timeBytes s.route.beginTime
      ++ opt 4 timeBytes s.route.dispatchTime ++ opt 4 timeBytes s.route.returnTime
      ++ opt 1 (fun m : StopNo => u8 m.val) s.route.openStop
      ++ u8 (s.stops.toList.countP fun o => o.any fun st => st.state == .planned)
      ++ u8 (s.stops.toList.countP fun o => o.any fun st => st.state == .opened)
      ++ u8 (s.stops.toList.countP fun o => o.any fun st => st.state == .closed)
      ++ u8 (s.stops.toList.countP fun o => o.any fun st => st.state == .skipped) := by
  unfold routePart
  simp only [countStops_eq]

theorem acceptedOf_eq (s : State) (st : Stop) : s.acceptedOf st =
    if st.state = .closed then st.accepted else st.planned.map fun e =>
      (st.offers.map fun j => match s.handoffs.get j with
        | some h => if (s.lots.get h.slot).any (fun l => l.number == e.1) = true then h.accepted else 0
        | none => 0).sum := by
  unfold State.acceptedOf
  simp only [acceptedAt_eq]

theorem stopPart_eq (s : State) (n : StopNo) (st : Stop) : stopPart s n st =
    u8 n.val ++ wordBytes st.consignee ++ wordBytes st.mask ++ u16 st.budget ++ u16 st.limit
      ++ counted statusEntry (st.planned.zip (s.acceptedOf st)) ++ u8 st.state.code
      ++ flag st.outOfOrder ++ flag st.late ++ flag st.doorOver ++ flag st.short
      ++ opt 4 timeBytes st.openTime ++ opt 4 timeBytes st.closeTime ++ st.doorSecs.toList.flatMap u16
      ++ opt 2 u16 st.timer := by
  unfold stopPart Stop.flagBytes
  simp only [List.append_assoc]

theorem entryRef_none {x y : Byte} (out : ([1, 3, 8, 4, 4, 16][x.toNat]?).all (fun n => decide (n ≤ y.toNat)) = true) :
    entryRef x y = none := by
  rw [entryRef_eq]
  generalize x.toNat = n at out
  rcases n with _ | _ | _ | _ | _ | _ | n
  · exact if_neg (not_lt.2 (by simpa using out))
  · exact dif_neg (not_lt.2 (by simpa using out))
  · exact dif_neg (not_lt.2 (by simpa using out))
  · exact dif_neg (not_lt.2 (by simpa using out))
  · exact dif_neg (not_lt.2 (by simpa using out))
  · exact dif_neg (not_lt.2 (by simpa using out))
  · rfl

/-! ### The answers of the requests that report -/

section Answers

variable {x : Byte} {c : Comp} {lot : Word} {i : Slot} {l : Lot} {j : HIndex} {h : Handoff}

theorem actCompartmentStatus_at (entry : indexIn 4 x = some c) : actCompartmentStatus x s =
    reply .ok s (scannerPart c s ++ watchPart c s ++ doorPart c s ++ defrostPart c s ++ exposurePart c s) := by
  unfold actCompartmentStatus
  rw [entry]

theorem actDoorStatus_at (entry : indexIn 4 x = some c) : actDoorStatus x s = reply .ok s
    ((s.settings.doors.get c).bytes ++ u8 (s.doors.get c).state.code ++ opt 4 timeBytes (s.doors.get c).lastChange
      ++ opt 8 (fun o : OpenPeriod => timeBytes o.start ++ opt 1 (fun k : OpeningKind => u8 k.code) o.kind ++ u16 o.held)
        (s.doors.get c).period
      ++ DoorLatch.bytes (s.doors.get c).latch ++ wordBytes (s.doors.get c).openTotal
      ++ opt 6 (fun st : Stop => u16 (st.doorSecs.get c) ++ u32 st.doorSecs.toList.sum)
        (s.route.openStop.bind fun n => s.stops.get n)) := by
  unfold actDoorStatus
  rw [entry, ← currentStop_opt]
  rfl

theorem actSettingsGet_at {y : Byte} {r : EntryRef} (entry : entryRef x y = some r) : actSettingsGet x y s = reply .ok s
    (s.settings.entryBytes r ++ [if s.storeWrite then 1 else 0, if s.defaulted then 1 else 0]) := by
  unfold actSettingsGet
  rw [entry]
  exact congrArg (fun body => reply .ok s body) (List.append_assoc _ _ _)

theorem actLotStatus_named (nonzero : lot ≠ 0) (known : x.toNat ≤ 2) (named : s.lotNamed lot = some (i, l)) :
    actLotStatus lot x s = reply .ok s
      (if x = 0 then l.part0 i else if x = 1 then l.part1 else counted s.listedHandoff l.handoffs) := by
  unfold actLotStatus
  rw [if_neg (not_or.2 ⟨nonzero, not_lt.2 known⟩), named]
  have parts : x = 0 ∨ x = 1 ∨ x = 2 := by bv_omega
  rcases parts with rfl | rfl | rfl <;> rfl

theorem actLotList_at (entry : indexIn 64 x = some i) : actLotList x s = reply .ok s
    (counted lotEntry ((s.lotsFrom i.val).take 16) ++ (match (s.lotsFrom i.val).drop 16 with
      | [] => [0, 0]
      | e :: _ => [1, BitVec.ofNat 8 e.1.val])) := by
  unfold actLotList
  rw [entry]
  dsimp only
  cases (s.lotsFrom i.val).drop 16 <;> rfl

theorem actStopStatus_at {n : StopNo} (entry : indexIn 32 x = some n) :
    actStopStatus x s = reply .ok s (routePart s ++ opt 40 (stopPart s n) (s.stops.get n)) := by
  unfold actStopStatus
  rw [entry]

theorem actHandoffStatus_at (entry : indexIn 128 x = some j) (holds : s.handoffs.get j = some h) :
    actHandoffStatus x s = reply .ok s (handoffStatusBody j h s) := by
  unfold actHandoffStatus
  rw [entry]
  dsimp only
  rw [holds]

end Answers

end Sys2Proof.Machine

namespace Sys2Proof.Proofs

open Sys2Proof.Machine

/-- Settles O24: the layouts, and the requests that report. -/
theorem statusReads : Obligations.StatusReads := by
  refine ⟨fieldLayouts_holds, codeLayouts_holds, recordLayouts_holds, entryLayouts_holds,
    fun s first => ⟨lotsFrom_sorted s first, fun i l => mem_lotsFrom⟩, fun p tag x s => ?_⟩
  intro accounting lots stops kindField
  refine ⟨fun c entry takes => ?_, fun i entry takes => ?_, fun d entry takes => ?_, fun c entry takes => ?_,
    fun y r entry takes => exec_answered rfl takes (actSettingsGet_at entry),
    fun lot i l nonzero known named takes => exec_answered rfl takes (actLotStatus_named nonzero known named),
    fun i entry takes => exec_answered rfl takes (actLotList_at entry), fun n entry takes => ?_,
    fun j h entry holds takes => ?_, fun takes => ?_, fun high takes => ?_, fun high takes => ?_, fun high takes => ?_,
    fun high takes => ?_, fun y out takes => ?_, fun lot takes => ⟨fun bad => ?_, fun nonzero known unnamed => ?_⟩,
    fun high takes => ?_, fun high takes => ?_, fun high takes => ?_, fun j entry free takes => ?_⟩
  · refine exec_answered rfl takes ((actCompartmentStatus_at entry).trans ?_)
    rw [doorPart_eq, exposurePart_eq]
    rfl
  · refine exec_answered rfl takes ?_
    change actProbeStatus x s = _
    unfold actProbeStatus
    rw [entry]
  · exact exec_answered rfl takes (actDoorStatus_at entry)
  · refine exec_answered rfl takes ?_
    change actDefrostStatus x s = _
    unfold actDefrostStatus
    rw [entry]
    rfl
  · refine exec_answered rfl takes ((actStopStatus_at entry).trans ?_)
    rw [routePart_eq, funext (stopPart_eq s n)]
    simp only [acceptedOf_eq]
    rfl
  · refine exec_answered rfl takes ((actHandoffStatus_at entry holds).trans ?_)
    unfold handoffStatusBody
    cases s.lots.get h.slot <;> rfl
  · refine exec_answered rfl takes ?_
    change actClaimList s = _
    unfold actClaimList
    rw [List.append_assoc]
    cases s.assessor with
    | none => rfl
    | some a =>
      dsimp only [Option.bind_some]
      cases a.claim <;> rfl
  · refine exec_answered rfl takes ?_
    change actCompartmentStatus x s = _
    unfold actCompartmentStatus
    rw [indexIn_eq_none.2 high]
  · refine exec_answered rfl takes ?_
    change actProbeStatus x s = _
    unfold actProbeStatus
    rw [indexIn_eq_none.2 high]
  · refine exec_answered rfl takes ?_
    change actDoorStatus x s = _
    unfold actDoorStatus
    rw [indexIn_eq_none.2 high]
  · refine exec_answered rfl takes ?_
    change actDefrostStatus x s = _
    unfold actDefrostStatus
    rw [indexIn_eq_none.2 high]
  · refine exec_answered rfl takes ?_
    change actSettingsGet x y s = _
    unfold actSettingsGet
    rw [entryRef_none out]
  · refine exec_answered rfl takes ?_
    change actLotStatus lot x s = _
    exact if_pos bad
  · refine exec_answered rfl takes ?_
    change actLotStatus lot x s = _
    unfold actLotStatus
    rw [if_neg (not_or.2 ⟨nonzero, not_lt.2 known⟩), unnamed]
  · refine exec_answered rfl takes ?_
    change actLotList x s = _
    unfold actLotList
    rw [indexIn_eq_none.2 high]
  · refine exec_answered rfl takes ?_
    change actStopStatus x s = _
    unfold actStopStatus
    rw [indexIn_eq_none.2 high]
  · refine exec_answered rfl takes ?_
    change actHandoffStatus x s = _
    unfold actHandoffStatus
    rw [indexIn_eq_none.2 high]
  · refine exec_answered rfl takes ?_
    change actHandoffStatus x s = _
    unfold actHandoffStatus
    rw [entry]
    dsimp only
    rw [free]

end Sys2Proof.Proofs
end
